-- ==== Sys2Proof/Word.lean ====
section
/-! DEFINITION. The two word types of the 65go2 CORE: the byte (every register but PC, every memory cell) and the 16-bit
word (PC and every address). `00_scope.md` R6, R8. -/

namespace Sys2Proof

/-- `u8` of R8: an unsigned 8-bit value; arithmetic on it wraps modulo 256. -/
abbrev Byte := BitVec 8

/-- `u16` of R8: an unsigned 16-bit value; arithmetic on it wraps modulo 65536. -/
abbrev Word := BitVec 16

end Sys2Proof
end

