-- ==== Sys2Proof/Machine/Bits.lean ====
section
/-! DEFINITION. Bit-field, extension and byte-order helpers of `00_scope.md` R8 and the stack address of
`10_state.md` R23. -/

namespace Sys2Proof.Machine

/-- `hi(a) = a[15:8]` (R8). -/
def hi (a : Word) : Byte := a.extractLsb' 8 8

/-- `lo(a) = a[7:0]` (R8). -/
def lo (a : Word) : Byte := a.extractLsb' 0 8

/-- `zext_16(v)` (R8). -/
def zext16 (v : Byte) : Word := v.setWidth 16

/-- `sext_16(v)`: bit 7 replicated into bits 15 to 8 (R8). -/
def sext16 (v : Byte) : Word := v.signExtend 16

/-- `w16(l, h) = zext_16(l) | (zext_16(h) << 8)`: little-endian assembly of two bytes (R8, `20_memory.md` R43). -/
def w16 (l h : Byte) : Word := zext16 l ||| (zext16 h <<< 8)

/-- The stack byte that the stack pointer value `sp` names: `0x0100 | SP` (`10_state.md` R23). -/
def stackAddr (sp : Byte) : Word := 0x0100#16 ||| zext16 sp

/-- Where the high byte of an indirect jump's target is read (`40_fetch_execute.md` R87): the low byte of the pointer
wraps within its page, "page-wrap bug, must be preserved". -/
def pageWrapNext (ptr : Word) : Word := (ptr &&& 0xFF00#16) ||| zext16 (lo ptr + 1#8)

end Sys2Proof.Machine
end

