-- ==== Sys2Proof/Syntax.lean ====
section
/-! DEFINITION. The instructions: one constructor for each of the 151 rows of `opcode_table.json` (`30_encoding.md` R64),
in the order of the opcode bytes. An operand field holds the operand byte, or the 16-bit operand with its low byte fetched
first (R62, R63). -/

namespace Sys2Proof

/-- The instruction set (R64): mnemonic and addressing mode name the constructor. -/
inductive Instr
  /-- 0x00 BRK implied (R162). -/
  | brk
  /-- 0x01 ORA (indirect,X) (R123). -/
  | oraIndexedIndirectX (z : Byte)
  /-- 0x05 ORA zero page (R123). -/
  | oraZeropage (z : Byte)
  /-- 0x06 ASL zero page (R138). -/
  | aslZeropage (z : Byte)
  /-- 0x08 PHP implied (R118). -/
  | php
  /-- 0x09 ORA immediate (R123). -/
  | oraImmediate (value : Byte)
  /-- 0x0A ASL accumulator (R138). -/
  | aslAccumulator
  /-- 0x0D ORA absolute (R123). -/
  | oraAbsolute (addr : Word)
  /-- 0x0E ASL absolute (R138). -/
  | aslAbsolute (addr : Word)
  /-- 0x10 BPL relative (R151). -/
  | bpl (offset : Byte)
  /-- 0x11 ORA (indirect),Y (R123). -/
  | oraIndirectIndexedY (z : Byte)
  /-- 0x15 ORA zero page,X (R123). -/
  | oraZeropageX (z : Byte)
  /-- 0x16 ASL zero page,X (R138). -/
  | aslZeropageX (z : Byte)
  /-- 0x18 CLC implied (R155). -/
  | clc
  /-- 0x19 ORA absolute,Y (R123). -/
  | oraAbsoluteY (addr : Word)
  /-- 0x1D ORA absolute,X (R123). -/
  | oraAbsoluteX (addr : Word)
  /-- 0x1E ASL absolute,X (R138). -/
  | aslAbsoluteX (addr : Word)
  /-- 0x20 JSR absolute (R143). -/
  | jsr (addr : Word)
  /-- 0x21 AND (indirect,X) (R121). -/
  | andIndexedIndirectX (z : Byte)
  /-- 0x24 BIT zero page (R124). -/
  | bitZeropage (z : Byte)
  /-- 0x25 AND zero page (R121). -/
  | andZeropage (z : Byte)
  /-- 0x26 ROL zero page (R140). -/
  | rolZeropage (z : Byte)
  /-- 0x28 PLP implied (R120). -/
  | plp
  /-- 0x29 AND immediate (R121). -/
  | andImmediate (value : Byte)
  /-- 0x2A ROL accumulator (R140). -/
  | rolAccumulator
  /-- 0x2C BIT absolute (R124). -/
  | bitAbsolute (addr : Word)
  /-- 0x2D AND absolute (R121). -/
  | andAbsolute (addr : Word)
  /-- 0x2E ROL absolute (R140). -/
  | rolAbsolute (addr : Word)
  /-- 0x30 BMI relative (R149). -/
  | bmi (offset : Byte)
  /-- 0x31 AND (indirect),Y (R121). -/
  | andIndirectIndexedY (z : Byte)
  /-- 0x35 AND zero page,X (R121). -/
  | andZeropageX (z : Byte)
  /-- 0x36 ROL zero page,X (R140). -/
  | rolZeropageX (z : Byte)
  /-- 0x38 SEC implied (R159). -/
  | sec
  /-- 0x39 AND absolute,Y (R121). -/
  | andAbsoluteY (addr : Word)
  /-- 0x3D AND absolute,X (R121). -/
  | andAbsoluteX (addr : Word)
  /-- 0x3E ROL absolute,X (R140). -/
  | rolAbsoluteX (addr : Word)
  /-- 0x40 RTI implied (R163). -/
  | rti
  /-- 0x41 EOR (indirect,X) (R122). -/
  | eorIndexedIndirectX (z : Byte)
  /-- 0x45 EOR zero page (R122). -/
  | eorZeropage (z : Byte)
  /-- 0x46 LSR zero page (R139). -/
  | lsrZeropage (z : Byte)
  /-- 0x48 PHA implied (R117). -/
  | pha
  /-- 0x49 EOR immediate (R122). -/
  | eorImmediate (value : Byte)
  /-- 0x4A LSR accumulator (R139). -/
  | lsrAccumulator
  /-- 0x4C JMP absolute (R142). -/
  | jmpAbsolute (addr : Word)
  /-- 0x4D EOR absolute (R122). -/
  | eorAbsolute (addr : Word)
  /-- 0x4E LSR absolute (R139). -/
  | lsrAbsolute (addr : Word)
  /-- 0x50 BVC relative (R152). -/
  | bvc (offset : Byte)
  /-- 0x51 EOR (indirect),Y (R122). -/
  | eorIndirectIndexedY (z : Byte)
  /-- 0x55 EOR zero page,X (R122). -/
  | eorZeropageX (z : Byte)
  /-- 0x56 LSR zero page,X (R139). -/
  | lsrZeropageX (z : Byte)
  /-- 0x58 CLI implied (R157). -/
  | cli
  /-- 0x59 EOR absolute,Y (R122). -/
  | eorAbsoluteY (addr : Word)
  /-- 0x5D EOR absolute,X (R122). -/
  | eorAbsoluteX (addr : Word)
  /-- 0x5E LSR absolute,X (R139). -/
  | lsrAbsoluteX (addr : Word)
  /-- 0x60 RTS implied (R144). -/
  | rts
  /-- 0x61 ADC (indirect,X) (R125). -/
  | adcIndexedIndirectX (z : Byte)
  /-- 0x65 ADC zero page (R125). -/
  | adcZeropage (z : Byte)
  /-- 0x66 ROR zero page (R141). -/
  | rorZeropage (z : Byte)
  /-- 0x68 PLA implied (R119). -/
  | pla
  /-- 0x69 ADC immediate (R125). -/
  | adcImmediate (value : Byte)
  /-- 0x6A ROR accumulator (R141). -/
  | rorAccumulator
  /-- 0x6C JMP indirect (R142). -/
  | jmpIndirect (ptr : Word)
  /-- 0x6D ADC absolute (R125). -/
  | adcAbsolute (addr : Word)
  /-- 0x6E ROR absolute (R141). -/
  | rorAbsolute (addr : Word)
  /-- 0x70 BVS relative (R153). -/
  | bvs (offset : Byte)
  /-- 0x71 ADC (indirect),Y (R125). -/
  | adcIndirectIndexedY (z : Byte)
  /-- 0x75 ADC zero page,X (R125). -/
  | adcZeropageX (z : Byte)
  /-- 0x76 ROR zero page,X (R141). -/
  | rorZeropageX (z : Byte)
  /-- 0x78 SEI implied (R161). -/
  | sei
  /-- 0x79 ADC absolute,Y (R125). -/
  | adcAbsoluteY (addr : Word)
  /-- 0x7D ADC absolute,X (R125). -/
  | adcAbsoluteX (addr : Word)
  /-- 0x7E ROR absolute,X (R141). -/
  | rorAbsoluteX (addr : Word)
  /-- 0x81 STA (indirect,X) (R108). -/
  | staIndexedIndirectX (z : Byte)
  /-- 0x84 STY zero page (R110). -/
  | styZeropage (z : Byte)
  /-- 0x85 STA zero page (R108). -/
  | staZeropage (z : Byte)
  /-- 0x86 STX zero page (R109). -/
  | stxZeropage (z : Byte)
  /-- 0x88 DEY implied (R137). -/
  | dey
  /-- 0x8A TXA implied (R113). -/
  | txa
  /-- 0x8C STY absolute (R110). -/
  | styAbsolute (addr : Word)
  /-- 0x8D STA absolute (R108). -/
  | staAbsolute (addr : Word)
  /-- 0x8E STX absolute (R109). -/
  | stxAbsolute (addr : Word)
  /-- 0x90 BCC relative (R146). -/
  | bcc (offset : Byte)
  /-- 0x91 STA (indirect),Y (R108). -/
  | staIndirectIndexedY (z : Byte)
  /-- 0x94 STY zero page,X (R110). -/
  | styZeropageX (z : Byte)
  /-- 0x95 STA zero page,X (R108). -/
  | staZeropageX (z : Byte)
  /-- 0x96 STX zero page,Y (R109). -/
  | stxZeropageY (z : Byte)
  /-- 0x98 TYA implied (R114). -/
  | tya
  /-- 0x99 STA absolute,Y (R108). -/
  | staAbsoluteY (addr : Word)
  /-- 0x9A TXS implied (R116). -/
  | txs
  /-- 0x9D STA absolute,X (R108). -/
  | staAbsoluteX (addr : Word)
  /-- 0xA0 LDY immediate (R107). -/
  | ldyImmediate (value : Byte)
  /-- 0xA1 LDA (indirect,X) (R105). -/
  | ldaIndexedIndirectX (z : Byte)
  /-- 0xA2 LDX immediate (R106). -/
  | ldxImmediate (value : Byte)
  /-- 0xA4 LDY zero page (R107). -/
  | ldyZeropage (z : Byte)
  /-- 0xA5 LDA zero page (R105). -/
  | ldaZeropage (z : Byte)
  /-- 0xA6 LDX zero page (R106). -/
  | ldxZeropage (z : Byte)
  /-- 0xA8 TAY implied (R112). -/
  | tay
  /-- 0xA9 LDA immediate (R105). -/
  | ldaImmediate (value : Byte)
  /-- 0xAA TAX implied (R111). -/
  | tax
  /-- 0xAC LDY absolute (R107). -/
  | ldyAbsolute (addr : Word)
  /-- 0xAD LDA absolute (R105). -/
  | ldaAbsolute (addr : Word)
  /-- 0xAE LDX absolute (R106). -/
  | ldxAbsolute (addr : Word)
  /-- 0xB0 BCS relative (R147). -/
  | bcs (offset : Byte)
  /-- 0xB1 LDA (indirect),Y (R105). -/
  | ldaIndirectIndexedY (z : Byte)
  /-- 0xB4 LDY zero page,X (R107). -/
  | ldyZeropageX (z : Byte)
  /-- 0xB5 LDA zero page,X (R105). -/
  | ldaZeropageX (z : Byte)
  /-- 0xB6 LDX zero page,Y (R106). -/
  | ldxZeropageY (z : Byte)
  /-- 0xB8 CLV implied (R158). -/
  | clv
  /-- 0xB9 LDA absolute,Y (R105). -/
  | ldaAbsoluteY (addr : Word)
  /-- 0xBA TSX implied (R115). -/
  | tsx
  /-- 0xBC LDY absolute,X (R107). -/
  | ldyAbsoluteX (addr : Word)
  /-- 0xBD LDA absolute,X (R105). -/
  | ldaAbsoluteX (addr : Word)
  /-- 0xBE LDX absolute,Y (R106). -/
  | ldxAbsoluteY (addr : Word)
  /-- 0xC0 CPY immediate (R129). -/
  | cpyImmediate (value : Byte)
  /-- 0xC1 CMP (indirect,X) (R127). -/
  | cmpIndexedIndirectX (z : Byte)
  /-- 0xC4 CPY zero page (R129). -/
  | cpyZeropage (z : Byte)
  /-- 0xC5 CMP zero page (R127). -/
  | cmpZeropage (z : Byte)
  /-- 0xC6 DEC zero page (R133). -/
  | decZeropage (z : Byte)
  /-- 0xC8 INY implied (R135). -/
  | iny
  /-- 0xC9 CMP immediate (R127). -/
  | cmpImmediate (value : Byte)
  /-- 0xCA DEX implied (R136). -/
  | dex
  /-- 0xCC CPY absolute (R129). -/
  | cpyAbsolute (addr : Word)
  /-- 0xCD CMP absolute (R127). -/
  | cmpAbsolute (addr : Word)
  /-- 0xCE DEC absolute (R133). -/
  | decAbsolute (addr : Word)
  /-- 0xD0 BNE relative (R150). -/
  | bne (offset : Byte)
  /-- 0xD1 CMP (indirect),Y (R127). -/
  | cmpIndirectIndexedY (z : Byte)
  /-- 0xD5 CMP zero page,X (R127). -/
  | cmpZeropageX (z : Byte)
  /-- 0xD6 DEC zero page,X (R133). -/
  | decZeropageX (z : Byte)
  /-- 0xD8 CLD implied (R156). -/
  | cld
  /-- 0xD9 CMP absolute,Y (R127). -/
  | cmpAbsoluteY (addr : Word)
  /-- 0xDD CMP absolute,X (R127). -/
  | cmpAbsoluteX (addr : Word)
  /-- 0xDE DEC absolute,X (R133). -/
  | decAbsoluteX (addr : Word)
  /-- 0xE0 CPX immediate (R128). -/
  | cpxImmediate (value : Byte)
  /-- 0xE1 SBC (indirect,X) (R126). -/
  | sbcIndexedIndirectX (z : Byte)
  /-- 0xE4 CPX zero page (R128). -/
  | cpxZeropage (z : Byte)
  /-- 0xE5 SBC zero page (R126). -/
  | sbcZeropage (z : Byte)
  /-- 0xE6 INC zero page (R132). -/
  | incZeropage (z : Byte)
  /-- 0xE8 INX implied (R134). -/
  | inx
  /-- 0xE9 SBC immediate (R126). -/
  | sbcImmediate (value : Byte)
  /-- 0xEA NOP implied (R164). -/
  | nop
  /-- 0xEC CPX absolute (R128). -/
  | cpxAbsolute (addr : Word)
  /-- 0xED SBC absolute (R126). -/
  | sbcAbsolute (addr : Word)
  /-- 0xEE INC absolute (R132). -/
  | incAbsolute (addr : Word)
  /-- 0xF0 BEQ relative (R148). -/
  | beq (offset : Byte)
  /-- 0xF1 SBC (indirect),Y (R126). -/
  | sbcIndirectIndexedY (z : Byte)
  /-- 0xF5 SBC zero page,X (R126). -/
  | sbcZeropageX (z : Byte)
  /-- 0xF6 INC zero page,X (R132). -/
  | incZeropageX (z : Byte)
  /-- 0xF8 SED implied (R160). -/
  | sed
  /-- 0xF9 SBC absolute,Y (R126). -/
  | sbcAbsoluteY (addr : Word)
  /-- 0xFD SBC absolute,X (R126). -/
  | sbcAbsoluteX (addr : Word)
  /-- 0xFE INC absolute,X (R132). -/
  | incAbsoluteX (addr : Word)
deriving DecidableEq, Repr

end Sys2Proof
end

