-- ==== Sys2Proof/Decode.lean ====
section
/-! DEFINITION. The opcode table (`30_encoding.md` R64), the decoder, total on any bytes (R68), and the encoder. -/

namespace Sys2Proof

open Sys2Proof.Machine

/-- The 56 mnemonics (`00_scope.md` R16). -/
inductive Mnemonic
  | adc | and | asl | bcc | bcs | beq | bit | bmi | bne | bpl | brk | bvc | bvs | clc
  | cld | cli | clv | cmp | cpx | cpy | dec | dex | dey | eor | inc | inx | iny | jmp
  | jsr | lda | ldx | ldy | lsr | nop | ora | pha | php | pla | plp | rol | ror | rti
  | rts | sbc | sec | sed | sei | sta | stx | sty | tax | tay | tsx | txa | txs | tya
deriving DecidableEq, Repr

/-- The 13 addressing modes (R61). -/
inductive Mode
  | implied | accumulator | immediate | zeropage | zeropageX | zeropageY | absolute
  | absoluteX | absoluteY | indirect | indexedIndirectX | indirectIndexedY | relative
deriving DecidableEq, Repr

/-- The operand bytes that follow the opcode (R61). -/
def Mode.operandLength : Mode → Nat
  | .implied => 0
  | .accumulator => 0
  | .immediate => 1
  | .zeropage => 1
  | .zeropageX => 1
  | .zeropageY => 1
  | .absolute => 2
  | .absoluteX => 2
  | .absoluteY => 2
  | .indirect => 2
  | .indexedIndirectX => 1
  | .indirectIndexedY => 1
  | .relative => 1

/-- The penalty column of the table (R64): the page-cross cycle of R93, the branch cycles of R145, or none. -/
inductive Penalty
  | none | page | branch
deriving DecidableEq, Repr

/-- One row of the opcode table (R64). -/
structure Row where
  opcode : Byte
  mnemonic : Mnemonic
  mode : Mode
  cycles : Nat
  penalty : Penalty
deriving DecidableEq, Repr

/-- The opcode table (R64): the row of each instruction. -/
def Instr.row : Instr → Row
  | .brk => ⟨0x00#8, .brk, .implied, 7, .none⟩
  | .oraIndexedIndirectX _ => ⟨0x01#8, .ora, .indexedIndirectX, 6, .none⟩
  | .oraZeropage _ => ⟨0x05#8, .ora, .zeropage, 3, .none⟩
  | .aslZeropage _ => ⟨0x06#8, .asl, .zeropage, 5, .none⟩
  | .php => ⟨0x08#8, .php, .implied, 3, .none⟩
  | .oraImmediate _ => ⟨0x09#8, .ora, .immediate, 2, .none⟩
  | .aslAccumulator => ⟨0x0A#8, .asl, .accumulator, 2, .none⟩
  | .oraAbsolute _ => ⟨0x0D#8, .ora, .absolute, 4, .none⟩
  | .aslAbsolute _ => ⟨0x0E#8, .asl, .absolute, 6, .none⟩
  | .bpl _ => ⟨0x10#8, .bpl, .relative, 2, .branch⟩
  | .oraIndirectIndexedY _ => ⟨0x11#8, .ora, .indirectIndexedY, 5, .page⟩
  | .oraZeropageX _ => ⟨0x15#8, .ora, .zeropageX, 4, .none⟩
  | .aslZeropageX _ => ⟨0x16#8, .asl, .zeropageX, 6, .none⟩
  | .clc => ⟨0x18#8, .clc, .implied, 2, .none⟩
  | .oraAbsoluteY _ => ⟨0x19#8, .ora, .absoluteY, 4, .page⟩
  | .oraAbsoluteX _ => ⟨0x1D#8, .ora, .absoluteX, 4, .page⟩
  | .aslAbsoluteX _ => ⟨0x1E#8, .asl, .absoluteX, 7, .none⟩
  | .jsr _ => ⟨0x20#8, .jsr, .absolute, 6, .none⟩
  | .andIndexedIndirectX _ => ⟨0x21#8, .and, .indexedIndirectX, 6, .none⟩
  | .bitZeropage _ => ⟨0x24#8, .bit, .zeropage, 3, .none⟩
  | .andZeropage _ => ⟨0x25#8, .and, .zeropage, 3, .none⟩
  | .rolZeropage _ => ⟨0x26#8, .rol, .zeropage, 5, .none⟩
  | .plp => ⟨0x28#8, .plp, .implied, 4, .none⟩
  | .andImmediate _ => ⟨0x29#8, .and, .immediate, 2, .none⟩
  | .rolAccumulator => ⟨0x2A#8, .rol, .accumulator, 2, .none⟩
  | .bitAbsolute _ => ⟨0x2C#8, .bit, .absolute, 4, .none⟩
  | .andAbsolute _ => ⟨0x2D#8, .and, .absolute, 4, .none⟩
  | .rolAbsolute _ => ⟨0x2E#8, .rol, .absolute, 6, .none⟩
  | .bmi _ => ⟨0x30#8, .bmi, .relative, 2, .branch⟩
  | .andIndirectIndexedY _ => ⟨0x31#8, .and, .indirectIndexedY, 5, .page⟩
  | .andZeropageX _ => ⟨0x35#8, .and, .zeropageX, 4, .none⟩
  | .rolZeropageX _ => ⟨0x36#8, .rol, .zeropageX, 6, .none⟩
  | .sec => ⟨0x38#8, .sec, .implied, 2, .none⟩
  | .andAbsoluteY _ => ⟨0x39#8, .and, .absoluteY, 4, .page⟩
  | .andAbsoluteX _ => ⟨0x3D#8, .and, .absoluteX, 4, .page⟩
  | .rolAbsoluteX _ => ⟨0x3E#8, .rol, .absoluteX, 7, .none⟩
  | .rti => ⟨0x40#8, .rti, .implied, 6, .none⟩
  | .eorIndexedIndirectX _ => ⟨0x41#8, .eor, .indexedIndirectX, 6, .none⟩
  | .eorZeropage _ => ⟨0x45#8, .eor, .zeropage, 3, .none⟩
  | .lsrZeropage _ => ⟨0x46#8, .lsr, .zeropage, 5, .none⟩
  | .pha => ⟨0x48#8, .pha, .implied, 3, .none⟩
  | .eorImmediate _ => ⟨0x49#8, .eor, .immediate, 2, .none⟩
  | .lsrAccumulator => ⟨0x4A#8, .lsr, .accumulator, 2, .none⟩
  | .jmpAbsolute _ => ⟨0x4C#8, .jmp, .absolute, 3, .none⟩
  | .eorAbsolute _ => ⟨0x4D#8, .eor, .absolute, 4, .none⟩
  | .lsrAbsolute _ => ⟨0x4E#8, .lsr, .absolute, 6, .none⟩
  | .bvc _ => ⟨0x50#8, .bvc, .relative, 2, .branch⟩
  | .eorIndirectIndexedY _ => ⟨0x51#8, .eor, .indirectIndexedY, 5, .page⟩
  | .eorZeropageX _ => ⟨0x55#8, .eor, .zeropageX, 4, .none⟩
  | .lsrZeropageX _ => ⟨0x56#8, .lsr, .zeropageX, 6, .none⟩
  | .cli => ⟨0x58#8, .cli, .implied, 2, .none⟩
  | .eorAbsoluteY _ => ⟨0x59#8, .eor, .absoluteY, 4, .page⟩
  | .eorAbsoluteX _ => ⟨0x5D#8, .eor, .absoluteX, 4, .page⟩
  | .lsrAbsoluteX _ => ⟨0x5E#8, .lsr, .absoluteX, 7, .none⟩
  | .rts => ⟨0x60#8, .rts, .implied, 6, .none⟩
  | .adcIndexedIndirectX _ => ⟨0x61#8, .adc, .indexedIndirectX, 6, .none⟩
  | .adcZeropage _ => ⟨0x65#8, .adc, .zeropage, 3, .none⟩
  | .rorZeropage _ => ⟨0x66#8, .ror, .zeropage, 5, .none⟩
  | .pla => ⟨0x68#8, .pla, .implied, 4, .none⟩
  | .adcImmediate _ => ⟨0x69#8, .adc, .immediate, 2, .none⟩
  | .rorAccumulator => ⟨0x6A#8, .ror, .accumulator, 2, .none⟩
  | .jmpIndirect _ => ⟨0x6C#8, .jmp, .indirect, 5, .none⟩
  | .adcAbsolute _ => ⟨0x6D#8, .adc, .absolute, 4, .none⟩
  | .rorAbsolute _ => ⟨0x6E#8, .ror, .absolute, 6, .none⟩
  | .bvs _ => ⟨0x70#8, .bvs, .relative, 2, .branch⟩
  | .adcIndirectIndexedY _ => ⟨0x71#8, .adc, .indirectIndexedY, 5, .page⟩
  | .adcZeropageX _ => ⟨0x75#8, .adc, .zeropageX, 4, .none⟩
  | .rorZeropageX _ => ⟨0x76#8, .ror, .zeropageX, 6, .none⟩
  | .sei => ⟨0x78#8, .sei, .implied, 2, .none⟩
  | .adcAbsoluteY _ => ⟨0x79#8, .adc, .absoluteY, 4, .page⟩
  | .adcAbsoluteX _ => ⟨0x7D#8, .adc, .absoluteX, 4, .page⟩
  | .rorAbsoluteX _ => ⟨0x7E#8, .ror, .absoluteX, 7, .none⟩
  | .staIndexedIndirectX _ => ⟨0x81#8, .sta, .indexedIndirectX, 6, .none⟩
  | .styZeropage _ => ⟨0x84#8, .sty, .zeropage, 3, .none⟩
  | .staZeropage _ => ⟨0x85#8, .sta, .zeropage, 3, .none⟩
  | .stxZeropage _ => ⟨0x86#8, .stx, .zeropage, 3, .none⟩
  | .dey => ⟨0x88#8, .dey, .implied, 2, .none⟩
  | .txa => ⟨0x8A#8, .txa, .implied, 2, .none⟩
  | .styAbsolute _ => ⟨0x8C#8, .sty, .absolute, 4, .none⟩
  | .staAbsolute _ => ⟨0x8D#8, .sta, .absolute, 4, .none⟩
  | .stxAbsolute _ => ⟨0x8E#8, .stx, .absolute, 4, .none⟩
  | .bcc _ => ⟨0x90#8, .bcc, .relative, 2, .branch⟩
  | .staIndirectIndexedY _ => ⟨0x91#8, .sta, .indirectIndexedY, 6, .none⟩
  | .styZeropageX _ => ⟨0x94#8, .sty, .zeropageX, 4, .none⟩
  | .staZeropageX _ => ⟨0x95#8, .sta, .zeropageX, 4, .none⟩
  | .stxZeropageY _ => ⟨0x96#8, .stx, .zeropageY, 4, .none⟩
  | .tya => ⟨0x98#8, .tya, .implied, 2, .none⟩
  | .staAbsoluteY _ => ⟨0x99#8, .sta, .absoluteY, 5, .none⟩
  | .txs => ⟨0x9A#8, .txs, .implied, 2, .none⟩
  | .staAbsoluteX _ => ⟨0x9D#8, .sta, .absoluteX, 5, .none⟩
  | .ldyImmediate _ => ⟨0xA0#8, .ldy, .immediate, 2, .none⟩
  | .ldaIndexedIndirectX _ => ⟨0xA1#8, .lda, .indexedIndirectX, 6, .none⟩
  | .ldxImmediate _ => ⟨0xA2#8, .ldx, .immediate, 2, .none⟩
  | .ldyZeropage _ => ⟨0xA4#8, .ldy, .zeropage, 3, .none⟩
  | .ldaZeropage _ => ⟨0xA5#8, .lda, .zeropage, 3, .none⟩
  | .ldxZeropage _ => ⟨0xA6#8, .ldx, .zeropage, 3, .none⟩
  | .tay => ⟨0xA8#8, .tay, .implied, 2, .none⟩
  | .ldaImmediate _ => ⟨0xA9#8, .lda, .immediate, 2, .none⟩
  | .tax => ⟨0xAA#8, .tax, .implied, 2, .none⟩
  | .ldyAbsolute _ => ⟨0xAC#8, .ldy, .absolute, 4, .none⟩
  | .ldaAbsolute _ => ⟨0xAD#8, .lda, .absolute, 4, .none⟩
  | .ldxAbsolute _ => ⟨0xAE#8, .ldx, .absolute, 4, .none⟩
  | .bcs _ => ⟨0xB0#8, .bcs, .relative, 2, .branch⟩
  | .ldaIndirectIndexedY _ => ⟨0xB1#8, .lda, .indirectIndexedY, 5, .page⟩
  | .ldyZeropageX _ => ⟨0xB4#8, .ldy, .zeropageX, 4, .none⟩
  | .ldaZeropageX _ => ⟨0xB5#8, .lda, .zeropageX, 4, .none⟩
  | .ldxZeropageY _ => ⟨0xB6#8, .ldx, .zeropageY, 4, .none⟩
  | .clv => ⟨0xB8#8, .clv, .implied, 2, .none⟩
  | .ldaAbsoluteY _ => ⟨0xB9#8, .lda, .absoluteY, 4, .page⟩
  | .tsx => ⟨0xBA#8, .tsx, .implied, 2, .none⟩
  | .ldyAbsoluteX _ => ⟨0xBC#8, .ldy, .absoluteX, 4, .page⟩
  | .ldaAbsoluteX _ => ⟨0xBD#8, .lda, .absoluteX, 4, .page⟩
  | .ldxAbsoluteY _ => ⟨0xBE#8, .ldx, .absoluteY, 4, .page⟩
  | .cpyImmediate _ => ⟨0xC0#8, .cpy, .immediate, 2, .none⟩
  | .cmpIndexedIndirectX _ => ⟨0xC1#8, .cmp, .indexedIndirectX, 6, .none⟩
  | .cpyZeropage _ => ⟨0xC4#8, .cpy, .zeropage, 3, .none⟩
  | .cmpZeropage _ => ⟨0xC5#8, .cmp, .zeropage, 3, .none⟩
  | .decZeropage _ => ⟨0xC6#8, .dec, .zeropage, 5, .none⟩
  | .iny => ⟨0xC8#8, .iny, .implied, 2, .none⟩
  | .cmpImmediate _ => ⟨0xC9#8, .cmp, .immediate, 2, .none⟩
  | .dex => ⟨0xCA#8, .dex, .implied, 2, .none⟩
  | .cpyAbsolute _ => ⟨0xCC#8, .cpy, .absolute, 4, .none⟩
  | .cmpAbsolute _ => ⟨0xCD#8, .cmp, .absolute, 4, .none⟩
  | .decAbsolute _ => ⟨0xCE#8, .dec, .absolute, 6, .none⟩
  | .bne _ => ⟨0xD0#8, .bne, .relative, 2, .branch⟩
  | .cmpIndirectIndexedY _ => ⟨0xD1#8, .cmp, .indirectIndexedY, 5, .page⟩
  | .cmpZeropageX _ => ⟨0xD5#8, .cmp, .zeropageX, 4, .none⟩
  | .decZeropageX _ => ⟨0xD6#8, .dec, .zeropageX, 6, .none⟩
  | .cld => ⟨0xD8#8, .cld, .implied, 2, .none⟩
  | .cmpAbsoluteY _ => ⟨0xD9#8, .cmp, .absoluteY, 4, .page⟩
  | .cmpAbsoluteX _ => ⟨0xDD#8, .cmp, .absoluteX, 4, .page⟩
  | .decAbsoluteX _ => ⟨0xDE#8, .dec, .absoluteX, 7, .none⟩
  | .cpxImmediate _ => ⟨0xE0#8, .cpx, .immediate, 2, .none⟩
  | .sbcIndexedIndirectX _ => ⟨0xE1#8, .sbc, .indexedIndirectX, 6, .none⟩
  | .cpxZeropage _ => ⟨0xE4#8, .cpx, .zeropage, 3, .none⟩
  | .sbcZeropage _ => ⟨0xE5#8, .sbc, .zeropage, 3, .none⟩
  | .incZeropage _ => ⟨0xE6#8, .inc, .zeropage, 5, .none⟩
  | .inx => ⟨0xE8#8, .inx, .implied, 2, .none⟩
  | .sbcImmediate _ => ⟨0xE9#8, .sbc, .immediate, 2, .none⟩
  | .nop => ⟨0xEA#8, .nop, .implied, 2, .none⟩
  | .cpxAbsolute _ => ⟨0xEC#8, .cpx, .absolute, 4, .none⟩
  | .sbcAbsolute _ => ⟨0xED#8, .sbc, .absolute, 4, .none⟩
  | .incAbsolute _ => ⟨0xEE#8, .inc, .absolute, 6, .none⟩
  | .beq _ => ⟨0xF0#8, .beq, .relative, 2, .branch⟩
  | .sbcIndirectIndexedY _ => ⟨0xF1#8, .sbc, .indirectIndexedY, 5, .page⟩
  | .sbcZeropageX _ => ⟨0xF5#8, .sbc, .zeropageX, 4, .none⟩
  | .incZeropageX _ => ⟨0xF6#8, .inc, .zeropageX, 6, .none⟩
  | .sed => ⟨0xF8#8, .sed, .implied, 2, .none⟩
  | .sbcAbsoluteY _ => ⟨0xF9#8, .sbc, .absoluteY, 4, .page⟩
  | .sbcAbsoluteX _ => ⟨0xFD#8, .sbc, .absoluteX, 4, .page⟩
  | .incAbsoluteX _ => ⟨0xFE#8, .inc, .absoluteX, 7, .none⟩

/-- The operand bytes in address order, a 16-bit operand low byte first (R62, R63). -/
def Instr.operandBytes : Instr → List Byte
  | .brk => []
  | .oraIndexedIndirectX b => [b]
  | .oraZeropage b => [b]
  | .aslZeropage b => [b]
  | .php => []
  | .oraImmediate b => [b]
  | .aslAccumulator => []
  | .oraAbsolute w => [lo w, hi w]
  | .aslAbsolute w => [lo w, hi w]
  | .bpl b => [b]
  | .oraIndirectIndexedY b => [b]
  | .oraZeropageX b => [b]
  | .aslZeropageX b => [b]
  | .clc => []
  | .oraAbsoluteY w => [lo w, hi w]
  | .oraAbsoluteX w => [lo w, hi w]
  | .aslAbsoluteX w => [lo w, hi w]
  | .jsr w => [lo w, hi w]
  | .andIndexedIndirectX b => [b]
  | .bitZeropage b => [b]
  | .andZeropage b => [b]
  | .rolZeropage b => [b]
  | .plp => []
  | .andImmediate b => [b]
  | .rolAccumulator => []
  | .bitAbsolute w => [lo w, hi w]
  | .andAbsolute w => [lo w, hi w]
  | .rolAbsolute w => [lo w, hi w]
  | .bmi b => [b]
  | .andIndirectIndexedY b => [b]
  | .andZeropageX b => [b]
  | .rolZeropageX b => [b]
  | .sec => []
  | .andAbsoluteY w => [lo w, hi w]
  | .andAbsoluteX w => [lo w, hi w]
  | .rolAbsoluteX w => [lo w, hi w]
  | .rti => []
  | .eorIndexedIndirectX b => [b]
  | .eorZeropage b => [b]
  | .lsrZeropage b => [b]
  | .pha => []
  | .eorImmediate b => [b]
  | .lsrAccumulator => []
  | .jmpAbsolute w => [lo w, hi w]
  | .eorAbsolute w => [lo w, hi w]
  | .lsrAbsolute w => [lo w, hi w]
  | .bvc b => [b]
  | .eorIndirectIndexedY b => [b]
  | .eorZeropageX b => [b]
  | .lsrZeropageX b => [b]
  | .cli => []
  | .eorAbsoluteY w => [lo w, hi w]
  | .eorAbsoluteX w => [lo w, hi w]
  | .lsrAbsoluteX w => [lo w, hi w]
  | .rts => []
  | .adcIndexedIndirectX b => [b]
  | .adcZeropage b => [b]
  | .rorZeropage b => [b]
  | .pla => []
  | .adcImmediate b => [b]
  | .rorAccumulator => []
  | .jmpIndirect w => [lo w, hi w]
  | .adcAbsolute w => [lo w, hi w]
  | .rorAbsolute w => [lo w, hi w]
  | .bvs b => [b]
  | .adcIndirectIndexedY b => [b]
  | .adcZeropageX b => [b]
  | .rorZeropageX b => [b]
  | .sei => []
  | .adcAbsoluteY w => [lo w, hi w]
  | .adcAbsoluteX w => [lo w, hi w]
  | .rorAbsoluteX w => [lo w, hi w]
  | .staIndexedIndirectX b => [b]
  | .styZeropage b => [b]
  | .staZeropage b => [b]
  | .stxZeropage b => [b]
  | .dey => []
  | .txa => []
  | .styAbsolute w => [lo w, hi w]
  | .staAbsolute w => [lo w, hi w]
  | .stxAbsolute w => [lo w, hi w]
  | .bcc b => [b]
  | .staIndirectIndexedY b => [b]
  | .styZeropageX b => [b]
  | .staZeropageX b => [b]
  | .stxZeropageY b => [b]
  | .tya => []
  | .staAbsoluteY w => [lo w, hi w]
  | .txs => []
  | .staAbsoluteX w => [lo w, hi w]
  | .ldyImmediate b => [b]
  | .ldaIndexedIndirectX b => [b]
  | .ldxImmediate b => [b]
  | .ldyZeropage b => [b]
  | .ldaZeropage b => [b]
  | .ldxZeropage b => [b]
  | .tay => []
  | .ldaImmediate b => [b]
  | .tax => []
  | .ldyAbsolute w => [lo w, hi w]
  | .ldaAbsolute w => [lo w, hi w]
  | .ldxAbsolute w => [lo w, hi w]
  | .bcs b => [b]
  | .ldaIndirectIndexedY b => [b]
  | .ldyZeropageX b => [b]
  | .ldaZeropageX b => [b]
  | .ldxZeropageY b => [b]
  | .clv => []
  | .ldaAbsoluteY w => [lo w, hi w]
  | .tsx => []
  | .ldyAbsoluteX w => [lo w, hi w]
  | .ldaAbsoluteX w => [lo w, hi w]
  | .ldxAbsoluteY w => [lo w, hi w]
  | .cpyImmediate b => [b]
  | .cmpIndexedIndirectX b => [b]
  | .cpyZeropage b => [b]
  | .cmpZeropage b => [b]
  | .decZeropage b => [b]
  | .iny => []
  | .cmpImmediate b => [b]
  | .dex => []
  | .cpyAbsolute w => [lo w, hi w]
  | .cmpAbsolute w => [lo w, hi w]
  | .decAbsolute w => [lo w, hi w]
  | .bne b => [b]
  | .cmpIndirectIndexedY b => [b]
  | .cmpZeropageX b => [b]
  | .decZeropageX b => [b]
  | .cld => []
  | .cmpAbsoluteY w => [lo w, hi w]
  | .cmpAbsoluteX w => [lo w, hi w]
  | .decAbsoluteX w => [lo w, hi w]
  | .cpxImmediate b => [b]
  | .sbcIndexedIndirectX b => [b]
  | .cpxZeropage b => [b]
  | .sbcZeropage b => [b]
  | .incZeropage b => [b]
  | .inx => []
  | .sbcImmediate b => [b]
  | .nop => []
  | .cpxAbsolute w => [lo w, hi w]
  | .sbcAbsolute w => [lo w, hi w]
  | .incAbsolute w => [lo w, hi w]
  | .beq b => [b]
  | .sbcIndirectIndexedY b => [b]
  | .sbcZeropageX b => [b]
  | .incZeropageX b => [b]
  | .sed => []
  | .sbcAbsoluteY w => [lo w, hi w]
  | .sbcAbsoluteX w => [lo w, hi w]
  | .incAbsoluteX w => [lo w, hi w]

/-- What an opcode byte selects (R60): an instruction without operand bytes, or one that waits for its operand byte or its
16-bit operand. -/
inductive OpForm
  | alone (i : Instr)
  | byte (f : Byte → Instr)
  | word (f : Word → Instr)

/-- The decoder on the opcode byte (R68): the instruction form it selects, or none for an unmapped value (R66). -/
def decodeOpcode (op : Byte) : Option OpForm :=
  match op.toNat with
  | 0x00 => some (.alone .brk)
  | 0x01 => some (.byte .oraIndexedIndirectX)
  | 0x05 => some (.byte .oraZeropage)
  | 0x06 => some (.byte .aslZeropage)
  | 0x08 => some (.alone .php)
  | 0x09 => some (.byte .oraImmediate)
  | 0x0A => some (.alone .aslAccumulator)
  | 0x0D => some (.word .oraAbsolute)
  | 0x0E => some (.word .aslAbsolute)
  | 0x10 => some (.byte .bpl)
  | 0x11 => some (.byte .oraIndirectIndexedY)
  | 0x15 => some (.byte .oraZeropageX)
  | 0x16 => some (.byte .aslZeropageX)
  | 0x18 => some (.alone .clc)
  | 0x19 => some (.word .oraAbsoluteY)
  | 0x1D => some (.word .oraAbsoluteX)
  | 0x1E => some (.word .aslAbsoluteX)
  | 0x20 => some (.word .jsr)
  | 0x21 => some (.byte .andIndexedIndirectX)
  | 0x24 => some (.byte .bitZeropage)
  | 0x25 => some (.byte .andZeropage)
  | 0x26 => some (.byte .rolZeropage)
  | 0x28 => some (.alone .plp)
  | 0x29 => some (.byte .andImmediate)
  | 0x2A => some (.alone .rolAccumulator)
  | 0x2C => some (.word .bitAbsolute)
  | 0x2D => some (.word .andAbsolute)
  | 0x2E => some (.word .rolAbsolute)
  | 0x30 => some (.byte .bmi)
  | 0x31 => some (.byte .andIndirectIndexedY)
  | 0x35 => some (.byte .andZeropageX)
  | 0x36 => some (.byte .rolZeropageX)
  | 0x38 => some (.alone .sec)
  | 0x39 => some (.word .andAbsoluteY)
  | 0x3D => some (.word .andAbsoluteX)
  | 0x3E => some (.word .rolAbsoluteX)
  | 0x40 => some (.alone .rti)
  | 0x41 => some (.byte .eorIndexedIndirectX)
  | 0x45 => some (.byte .eorZeropage)
  | 0x46 => some (.byte .lsrZeropage)
  | 0x48 => some (.alone .pha)
  | 0x49 => some (.byte .eorImmediate)
  | 0x4A => some (.alone .lsrAccumulator)
  | 0x4C => some (.word .jmpAbsolute)
  | 0x4D => some (.word .eorAbsolute)
  | 0x4E => some (.word .lsrAbsolute)
  | 0x50 => some (.byte .bvc)
  | 0x51 => some (.byte .eorIndirectIndexedY)
  | 0x55 => some (.byte .eorZeropageX)
  | 0x56 => some (.byte .lsrZeropageX)
  | 0x58 => some (.alone .cli)
  | 0x59 => some (.word .eorAbsoluteY)
  | 0x5D => some (.word .eorAbsoluteX)
  | 0x5E => some (.word .lsrAbsoluteX)
  | 0x60 => some (.alone .rts)
  | 0x61 => some (.byte .adcIndexedIndirectX)
  | 0x65 => some (.byte .adcZeropage)
  | 0x66 => some (.byte .rorZeropage)
  | 0x68 => some (.alone .pla)
  | 0x69 => some (.byte .adcImmediate)
  | 0x6A => some (.alone .rorAccumulator)
  | 0x6C => some (.word .jmpIndirect)
  | 0x6D => some (.word .adcAbsolute)
  | 0x6E => some (.word .rorAbsolute)
  | 0x70 => some (.byte .bvs)
  | 0x71 => some (.byte .adcIndirectIndexedY)
  | 0x75 => some (.byte .adcZeropageX)
  | 0x76 => some (.byte .rorZeropageX)
  | 0x78 => some (.alone .sei)
  | 0x79 => some (.word .adcAbsoluteY)
  | 0x7D => some (.word .adcAbsoluteX)
  | 0x7E => some (.word .rorAbsoluteX)
  | 0x81 => some (.byte .staIndexedIndirectX)
  | 0x84 => some (.byte .styZeropage)
  | 0x85 => some (.byte .staZeropage)
  | 0x86 => some (.byte .stxZeropage)
  | 0x88 => some (.alone .dey)
  | 0x8A => some (.alone .txa)
  | 0x8C => some (.word .styAbsolute)
  | 0x8D => some (.word .staAbsolute)
  | 0x8E => some (.word .stxAbsolute)
  | 0x90 => some (.byte .bcc)
  | 0x91 => some (.byte .staIndirectIndexedY)
  | 0x94 => some (.byte .styZeropageX)
  | 0x95 => some (.byte .staZeropageX)
  | 0x96 => some (.byte .stxZeropageY)
  | 0x98 => some (.alone .tya)
  | 0x99 => some (.word .staAbsoluteY)
  | 0x9A => some (.alone .txs)
  | 0x9D => some (.word .staAbsoluteX)
  | 0xA0 => some (.byte .ldyImmediate)
  | 0xA1 => some (.byte .ldaIndexedIndirectX)
  | 0xA2 => some (.byte .ldxImmediate)
  | 0xA4 => some (.byte .ldyZeropage)
  | 0xA5 => some (.byte .ldaZeropage)
  | 0xA6 => some (.byte .ldxZeropage)
  | 0xA8 => some (.alone .tay)
  | 0xA9 => some (.byte .ldaImmediate)
  | 0xAA => some (.alone .tax)
  | 0xAC => some (.word .ldyAbsolute)
  | 0xAD => some (.word .ldaAbsolute)
  | 0xAE => some (.word .ldxAbsolute)
  | 0xB0 => some (.byte .bcs)
  | 0xB1 => some (.byte .ldaIndirectIndexedY)
  | 0xB4 => some (.byte .ldyZeropageX)
  | 0xB5 => some (.byte .ldaZeropageX)
  | 0xB6 => some (.byte .ldxZeropageY)
  | 0xB8 => some (.alone .clv)
  | 0xB9 => some (.word .ldaAbsoluteY)
  | 0xBA => some (.alone .tsx)
  | 0xBC => some (.word .ldyAbsoluteX)
  | 0xBD => some (.word .ldaAbsoluteX)
  | 0xBE => some (.word .ldxAbsoluteY)
  | 0xC0 => some (.byte .cpyImmediate)
  | 0xC1 => some (.byte .cmpIndexedIndirectX)
  | 0xC4 => some (.byte .cpyZeropage)
  | 0xC5 => some (.byte .cmpZeropage)
  | 0xC6 => some (.byte .decZeropage)
  | 0xC8 => some (.alone .iny)
  | 0xC9 => some (.byte .cmpImmediate)
  | 0xCA => some (.alone .dex)
  | 0xCC => some (.word .cpyAbsolute)
  | 0xCD => some (.word .cmpAbsolute)
  | 0xCE => some (.word .decAbsolute)
  | 0xD0 => some (.byte .bne)
  | 0xD1 => some (.byte .cmpIndirectIndexedY)
  | 0xD5 => some (.byte .cmpZeropageX)
  | 0xD6 => some (.byte .decZeropageX)
  | 0xD8 => some (.alone .cld)
  | 0xD9 => some (.word .cmpAbsoluteY)
  | 0xDD => some (.word .cmpAbsoluteX)
  | 0xDE => some (.word .decAbsoluteX)
  | 0xE0 => some (.byte .cpxImmediate)
  | 0xE1 => some (.byte .sbcIndexedIndirectX)
  | 0xE4 => some (.byte .cpxZeropage)
  | 0xE5 => some (.byte .sbcZeropage)
  | 0xE6 => some (.byte .incZeropage)
  | 0xE8 => some (.alone .inx)
  | 0xE9 => some (.byte .sbcImmediate)
  | 0xEA => some (.alone .nop)
  | 0xEC => some (.word .cpxAbsolute)
  | 0xED => some (.word .sbcAbsolute)
  | 0xEE => some (.word .incAbsolute)
  | 0xF0 => some (.byte .beq)
  | 0xF1 => some (.byte .sbcIndirectIndexedY)
  | 0xF5 => some (.byte .sbcZeropageX)
  | 0xF6 => some (.byte .incZeropageX)
  | 0xF8 => some (.alone .sed)
  | 0xF9 => some (.word .sbcAbsoluteY)
  | 0xFD => some (.word .sbcAbsoluteX)
  | 0xFE => some (.word .incAbsoluteX)
  | _ => none

/-- Why bytes do not decode, by name. -/
inductive DecodeError
  /-- The opcode is unmapped (R66). -/
  | badOpcode (op : Byte)
  /-- The bytes end inside an instruction. -/
  | truncated
deriving DecidableEq, Repr

/-- The decoder on a string of bytes: the instruction it begins with and the bytes left over. -/
def decode : List Byte → Except DecodeError (Instr × List Byte)
  | [] => .error .truncated
  | op :: rest =>
    match decodeOpcode op, rest with
    | none, _ => .error (.badOpcode op)
    | some (.alone i), rest => .ok (i, rest)
    | some (.byte f), b :: rest => .ok (f b, rest)
    | some (.word f), l :: h :: rest => .ok (f (w16 l h), rest)
    | some (.byte _), [] => .error .truncated
    | some (.word _), [] => .error .truncated
    | some (.word _), [_] => .error .truncated

/-- The length of an instruction in bytes (R61). -/
def Instr.length (i : Instr) : Nat := 1 + i.row.mode.operandLength

/-- The encoder: the opcode byte and the operand bytes, lowest address first (R62). -/
def encode (i : Instr) : List Byte := i.row.opcode :: i.operandBytes

/-- Byte `k` of an instruction whose bits are numbered as `opcode_table.json` numbers them: byte 0 is bits 7..0. Bits from
`nbits` on are 0. -/
def tableByte (nbits w k : Nat) : Byte := BitVec.ofNat 8 ((w % 2 ^ nbits) / 2 ^ (8 * k))

/-- The bytes of an instruction as the table numbers its bits, up to the longest instruction. -/
def tableBytes (nbits w : Nat) : List Byte := [tableByte nbits w 0, tableByte nbits w 1, tableByte nbits w 2]

/-- What this decoder reads from an instruction whose bits are `w` as the table numbers them. -/
def decodeTableWord (nbits w : Nat) : Option Instr :=
  match decode (tableBytes nbits w) with
  | .ok r => some r.1
  | .error _ => none

end Sys2Proof
end

