-- ==== Sys2Proof/Config.lean ====
section
/-! DEFINITION. What the spec leaves to the platform and the model fixes or leaves free: the two free values (constants
without a body), what an unwritten byte of RAM reads as, and the default divisor of the CPU's clock. -/

namespace Sys2Proof

/-- FREE VALUE. The byte the bus answers at its `draw`-th read of an address that is not bound to plain RAM
(`20_memory.md` R42, `93_implementation_defined.md` row 1: `any value`). Nothing constrains it. Log 2. -/
opaque Config.busByte (draw : Nat) (addr : Word) : Byte

/-- FREE VALUE. How far past its target the count is that an `await` on the master returns, before it is cut down to the
allowed range (`60_exceptions.md` R178: any v with `target <= v <= ticks`). Nothing constrains it. Log 11. -/
opaque Config.awaitSlack (draw : Nat) : Nat

/-- What a byte of RAM that nothing has written reads as. DESIGN CHOICE (log 1): the spec leaves the bus contents to the
host (`10_state.md` R34); `95_test_vectors.md` takes 0x00 for every byte it does not list. -/
def Config.unwritten : Byte := 0x00#8

/-- The default divisor of the CPU's clock (`60_exceptions.md` R181). -/
def Config.defaultDivisor : Nat := 12

end Sys2Proof
end

