-- ==== Sys2Proof/Machine/State.lean ====
section
/-! DEFINITION. The whole state of the machine as plain data: the register file (`10_state.md` R20), the CPU's phase
(R31), the bus with its event history (`20_memory.md` R40 to R47), the clock (R32, `60_exceptions.md` R175 to R184) and
the list of moves other agents make next (`00_scope.md` R17); the ways a step can stop; the state after reset. -/

namespace Sys2Proof.Machine

/-- RAM: the bytes that differ from what an unwritten byte reads as, addresses strictly rising. -/
abbrev Memory := List Host.Cell

/-- One bus transaction, as the event history records it (R42). `otherRead` and `otherWrite` are accesses by another
agent sharing the bus (R55); `reset` is the bus's own `reset()` (R40); that they are recorded too is log 25 (DESIGN CHOICE). -/
inductive BusEvent
  | read (addr : Word) (value : Byte)
  | write (addr : Word) (value : Byte)
  | reset
  | otherRead (addr : Word) (value : Byte)
  | otherWrite (addr : Word) (value : Byte)
deriving DecidableEq, Repr

/-- A range of addresses, both ends included. -/
structure Region where
  first : Word
  last : Word
deriving DecidableEq, Repr

/-- The parameter `busReset` (D18, R193): what the bus's own reset leaves in RAM, either what was there or an image
(DESIGN CHOICE: these two, log 4). -/
inductive BusReset
  | keep
  | image (mem : Memory)
deriving DecidableEq, Repr

/-- The bus as the CPU sees it. An address inside `devices` is not bound to plain RAM: a read of it is a free value
(R42; DESIGN CHOICE: the form, log 2). `history` is the event history, the newest event first. `draws` counts the free values
drawn. -/
structure Bus where
  mem : Memory
  devices : List Region
  onReset : BusReset
  history : List BusEvent
  draws : Nat
deriving DecidableEq, Repr

/-- A clock a caller can hold: the master, or a divider over it (R180). -/
inductive ClockRef
  | master
  | divider (divisor : Nat)
deriving DecidableEq, Repr

/-- Who called `await`: the CPU, or another consumer's call with a number of its own (R17). -/
inductive Caller
  | cpu
  | consumer (id : Nat)
deriving DecidableEq, Repr

/-- A registered waiter: its caller, the clock it waits on, and its target in master ticks (R32, R178). -/
structure Waiter where
  caller : Caller
  clock : ClockRef
  target : Nat
deriving DecidableEq, Repr

/-- A waiter that has been released and has not resumed yet (R179, D23); `drainedAt` holds the master count at which a
draining stop released it (R183). -/
structure Release where
  waiter : Waiter
  drainedAt : Option Nat
deriving DecidableEq, Repr

/-- The parameter `clockStopPolicy` (R183, D21). -/
inductive StopPolicy
  | block
  | drain
deriving DecidableEq, Repr

/-- A count that a clock operation returned to the host or to another consumer (R176, R178). -/
inductive ClockReturn
  | start (count : Nat)
  | await (id : Nat) (count : Nat)
deriving DecidableEq, Repr

/-- The master clock (R32). `returns` holds the counts returned so far, the newest first; `draws` counts the free
`await` values drawn (DESIGN CHOICE: both, logs 11 and 24). -/
structure Clock where
  ticks : Nat
  running : Bool
  waiters : List Waiter
  released : List Release
  policy : StopPolicy
  returns : List ClockReturn
  draws : Nat
deriving DecidableEq, Repr

/-- The CPU's phase (`10_state.md` R31). -/
inductive Phase
  | ready
  | waiting (start cycles : Nat)
  | halted (opcode : Byte)
deriving DecidableEq, Repr

/-- What `execute` returns: a 16-bit cycle count and the error, if any (R75, R76). -/
structure ExecReturn where
  cycles : BitVec 16
  error : Option Byte
deriving DecidableEq, Repr

/-- The bus the host sends to `new` (`60_exceptions.md` R187): the one the CPU has, or another one, of which the fields
`history` and `draws` are not read (DESIGN CHOICE: the machine keeps one event history, log 27). -/
inductive GivenBus
  | same
  | other (bus : Bus)
deriving DecidableEq, Repr

/-- The master clock the host sends to `new` (`60_exceptions.md` R187): the one the CPU has, or another one, of which the
fields `returns` and `draws` are not read (DESIGN CHOICE: log 27). -/
inductive GivenClock
  | same
  | other (clock : Clock)
deriving DecidableEq, Repr

/-- One move of an agent (`00_scope.md` R17, `60_exceptions.md` R187): the CPU's own next step, the clock producer's
tick (R179), the host's `start` and `stop` (R176, R177), another consumer's `await` and its resumption (R178, D23),
another agent's bus access (R55), the host's `reset` (R191) and its `new` (R190) with the bus, the master clock and the reference to
it, master or divider, that the CPU waits on. -/
inductive Move
  | cpu
  | tick
  | start
  | stop
  | await (id : Nat) (clock : ClockRef) (target : Nat)
  | resume (id : Nat)
  | otherRead (addr : Word)
  | otherWrite (addr : Word) (value : Byte)
  | reset
  | construct (bus : GivenBus) (clock : GivenClock) (cpuClock : ClockRef)
deriving DecidableEq, Repr

/-- Everything the spec gives the machine. `agenda` lists the moves of the agents that come next, first to last; when it
is empty the default schedule applies (DESIGN CHOICE, log 12). -/
structure State where
  a : Byte
  x : Byte
  y : Byte
  sp : Byte
  p : Byte
  pc : Word
  phase : Phase
  lastReturn : Option ExecReturn
  bus : Bus
  clock : Clock
  cpuClock : ClockRef
  agenda : List Move
deriving DecidableEq, Repr

/-- Why a run stops with a fault. -/
inductive Fault
  /-- Raised by `step` when the CPU has halted on an unmapped opcode and no other agent moves: the error that
  `execute` and `run` return to their caller (R77, R165). Safe: the spec gives a halted CPU no step (R166, D16). -/
  | badOpcode (opcode : Byte)
deriving DecidableEq, Repr

/-- Why the machine has no move. -/
inductive Refusal
  /-- Raised by an arm of `exec` whose instruction has no meaning yet; no arm of this model does. Safe. -/
  | notModelled (mnemonic : String)
  /-- Raised by the host's `reset` and `new` while the CPU is in its barrier: outside the host contract, "has no move in
  the model" (R194). Safe. -/
  | hostCallInBarrier
  /-- Raised by the host's `reset` when the bus's own reset changes a byte of the reset vector: outside the launch
  premise (R192, `93_implementation_defined.md` row 4). Safe. -/
  | resetVectorChanged
  /-- Raised by a consumer's `await` through a divider whose divisor is 0, and by the host's `new` with one: a divider has
  d >= 1 (R180). Safe. -/
  | zeroDivisor
deriving DecidableEq, Repr

/-- What a step answers. -/
abbrev Result := Host.Outcome State Fault Refusal

/-- A new master clock: ticks 0, stopped, no waiters (D19, R196). -/
def Clock.fresh : Clock :=
  { ticks := 0, running := false, waiters := [], released := [], policy := .block, returns := [], draws := 0 }

/-- The bus right after `reset()` on an empty memory: the bus's own reset and the two vector reads stand in the history,
the low byte's read before the high byte's (R191). -/
def Bus.afterReset : Bus :=
  { mem := [], devices := [], onReset := .keep,
    history := [.read 0xFFFD#16 0x00#8, .read 0xFFFC#16 0x00#8, .reset], draws := 0 }

/-- The machine right after `reset()` (R34, R191): A = X = Y = 0, P = 0x04, SP = 0xFD, PC = the word at the reset vector
(0x0000 in an empty memory; DESIGN CHOICE, logs 1 and 6), on a new clock that nobody has started (D19) behind the default
divider (log 9). -/
def State.reset : State :=
  { a := 0x00#8, x := 0x00#8, y := 0x00#8, sp := 0xFD#8, p := 0x04#8, pc := 0x0000#16, phase := .ready,
    lastReturn := none, bus := Bus.afterReset, clock := Clock.fresh,
    cpuClock := .divider Config.defaultDivisor, agenda := [] }

end Sys2Proof.Machine
end

