-- ==== Sys2Proof/Machine/Memory.lean ====
section
/-! DEFINITION. Reading and writing one byte of RAM, and the canonical form of the list that holds it. -/

namespace Sys2Proof.Machine

/-- The byte at an address: the listed one, else what an unwritten byte reads as. -/
def Memory.read : Memory → Nat → Byte
  | [], _ => Config.unwritten
  | (k, v) :: m, a => if k = a then v else Memory.read m a

/-- Put a cell in its place, keeping the addresses in order. -/
def Memory.insert : Memory → Nat → Byte → Memory
  | [], a, v => [(a, v)]
  | (k, w) :: m, a, v =>
    if a < k then (a, v) :: (k, w) :: m
    else if a = k then (a, v) :: m
    else (k, w) :: Memory.insert m a v

/-- Take an address's cells out of the list. -/
def Memory.erase : Memory → Nat → Memory
  | [], _ => []
  | (k, w) :: m, a => if k = a then Memory.erase m a else (k, w) :: Memory.erase m a

/-- Write one byte: a byte equal to what an unlisted address reads as is not listed. -/
def Memory.write (m : Memory) (a : Nat) (v : Byte) : Memory :=
  if v = Config.unwritten then Memory.erase m a else Memory.insert m a v

/-- Write a string of bytes at consecutive addresses, wrapping modulo 65536. -/
def Memory.load (m : Memory) (addr : Word) : List Byte → Memory
  | [] => m
  | b :: bs => Memory.load (Memory.write m addr.toNat b) (addr + 1#16) bs

/-- The canonical form from a least address on: addresses strictly rising inside the 65536-byte space (R41), no cell
that an unlisted address would read the same as. -/
def Memory.wfFrom (least : Nat) : Memory → Bool
  | [] => true
  | (k, v) :: m => decide (least ≤ k) && decide (k < 0x10000) && decide (v ≠ Config.unwritten) && Memory.wfFrom (k + 1) m

/-- The canonical form of a memory. -/
def Memory.wf (m : Memory) : Bool := Memory.wfFrom 0 m

end Sys2Proof.Machine
end

