-- ==== Sys2Proof/Machine/Bus.lean ====
section
/-! DEFINITION. The bus (`20_memory.md` R40 to R47): `fetch`, `store` and `reset`, each recorded in the event history, over
RAM and over addresses that are not bound to RAM. -/

namespace Sys2Proof.Machine

/-- Whether an address lies in a range. -/
def Region.contains (r : Region) (addr : Word) : Bool :=
  decide (r.first.toNat ≤ addr.toNat) && decide (addr.toNat ≤ r.last.toNat)

/-- Whether an address is not bound to plain RAM (R42, D2). -/
def Bus.isDevice (b : Bus) (addr : Word) : Bool := b.devices.any fun r => r.contains addr

/-- The RAM byte at an address, looked at without a transaction: what memory holds, for statements and for the host. -/
def Bus.peek (b : Bus) (addr : Word) : Byte := b.mem.read addr.toNat

/-- The byte a `fetch` of an address answers: RAM's, or a free value (R42). -/
def Bus.value (b : Bus) (addr : Word) : Byte :=
  if b.isDevice addr then Config.busByte b.draws addr else b.peek addr

/-- A free value drawn at `addr` counts as drawn. -/
def Bus.drawn (b : Bus) (addr : Word) : Nat := if b.isDevice addr then b.draws + 1 else b.draws

/-- The bus after a `fetch` by the CPU (R40, R42). -/
def Bus.afterRead (b : Bus) (addr : Word) : Bus :=
  { b with history := .read addr (b.value addr) :: b.history, draws := b.drawn addr }

/-- RAM after a store to an address: a byte bound to RAM takes the value (R42); what a store does behind an address
that is not bound to RAM is the device's own (DESIGN CHOICE, log 3). -/
def Bus.stored (b : Bus) (addr : Word) (v : Byte) : Memory :=
  if b.isDevice addr then b.mem else b.mem.write addr.toNat v

/-- The bus after a `store` by the CPU (R40, R42). -/
def Bus.afterWrite (b : Bus) (addr : Word) (v : Byte) : Bus :=
  { b with history := .write addr v :: b.history, mem := b.stored addr v }

/-- The bus after a read by another agent sharing it (R55). -/
def Bus.afterOtherRead (b : Bus) (addr : Word) : Bus :=
  { b with history := .otherRead addr (b.value addr) :: b.history, draws := b.drawn addr }

/-- The bus after a write by another agent sharing it (R55). -/
def Bus.afterOtherWrite (b : Bus) (addr : Word) (v : Byte) : Bus :=
  { b with history := .otherWrite addr v :: b.history, mem := b.stored addr v }

/-- The bus after its own `reset()`: RAM is what the parameter `busReset` says (R40, R193, D18). -/
def Bus.afterBusReset (b : Bus) : Bus :=
  { b with
    history := .reset :: b.history
    mem := match b.onReset with
      | .keep => b.mem
      | .image m => m }

end Sys2Proof.Machine
end

