-- ==== Sys2Proof/Machine/Flags.lean ====
section
/-! DEFINITION. The status byte P and every flag computation of `40_fetch_execute.md` section 3 (R95 to R103), with the
results of the shifts, increments and comparisons that share them. -/

namespace Sys2Proof.Machine

/-- The named bits of P (`10_state.md` R24); `u` is the unused bit 5. -/
inductive Flag
  | c | z | i | d | b | u | v | n
deriving DecidableEq, Repr

/-- The bit of P that holds a flag (`10_state.md` R24). -/
def Flag.index : Flag → Nat
  | .c => 0 | .z => 1 | .i => 2 | .d => 3 | .b => 4 | .u => 5 | .v => 6 | .n => 7

/-- `P.F`: read one flag (`00_scope.md` R9). -/
def getFlag (f : Flag) (p : Byte) : Bool := p.getLsbD f.index

/-- `P.F <- b`: write one bit and leave the other seven (`00_scope.md` R9). -/
def setFlag (f : Flag) (b : Bool) (p : Byte) : Byte :=
  if b then p ||| (1#8 <<< f.index) else p &&& ~~~(1#8 <<< f.index)

/-- `setZN(v)` (R95): Z is set iff the value is 0, N is bit 7 of the value. -/
def setZN (v p : Byte) : Byte := setFlag .n v.msb (setFlag .z (v == 0#8) p)

/-- The image of P that PHP and BRK push: B forced to 1, every other bit as stored (`10_state.md` R25, conflict C2). -/
def pushedStatus (p : Byte) : Byte := p ||| 0x10#8

/-- Binary addition (R96): the 8-bit sum and the carry out of the 9-bit sum. -/
def addBin (a b : Byte) (cin : Bool) : Byte × Bool :=
  let s := a.toNat + b.toNat + cin.toNat
  (BitVec.ofNat 8 s, decide (0xFF < s))

/-- Addition overflow (R97). -/
def vAdd (a b r : Byte) : Bool := (~~~(a ^^^ b) &&& (a ^^^ r)) &&& 0x80#8 != 0#8

/-- Binary subtraction (R98): the 8-bit difference and "not borrow". -/
def subBin (a b : Byte) (cin : Bool) : Byte × Bool :=
  let d : Int := (a.toNat : Int) - (b.toNat : Int) - (1 - (cin.toNat : Int))
  (BitVec.ofInt 8 d, decide (0 ≤ d))

/-- Subtraction overflow (R99). -/
def vSub (a b r : Byte) : Bool := (a ^^^ b) &&& (a ^^^ r) &&& 0x80#8 != 0#8

/-- The low-nibble sum of a BCD addition before adjustment (R101). -/
def bcdLow (a b : Byte) (cin : Bool) : Nat := (a.toNat &&& 0x0F) + (b.toNat &&& 0x0F) + cin.toNat

/-- The high-nibble sum of a BCD addition before adjustment, the low nibble's carry counted in (R101). -/
def bcdHigh (a b : Byte) (cin : Bool) : Nat :=
  (a.toNat &&& 0xF0) + (b.toNat &&& 0xF0) + (if 10 ≤ bcdLow a b cin then 0x10 else 0)

/-- BCD addition (R101), applied literally to any digits (D14). -/
def addBcd (a b : Byte) (cin : Bool) : Byte × Bool :=
  let l := if 10 ≤ bcdLow a b cin then bcdLow a b cin - 10 else bcdLow a b cin
  let h := if 0xA0 ≤ bcdHigh a b cin then bcdHigh a b cin - 0xA0 else bcdHigh a b cin
  (BitVec.ofNat 8 ((h &&& 0xF0) ||| (l &&& 0x0F)), decide (0xA0 ≤ bcdHigh a b cin))

/-- BCD subtraction (R102): BCD addition of the 99's complement. -/
def subBcd (a b : Byte) (cin : Bool) : Byte × Bool := addBcd a (0x99#8 - b) cin

/-- ADC's sum in the mode that P.D selects (R125). -/
def adcSum (a m p : Byte) : Byte × Bool :=
  if getFlag .d p then addBcd a m (getFlag .c p) else addBin a m (getFlag .c p)

/-- SBC's difference in the mode that P.D selects (R126). -/
def sbcDifference (a m p : Byte) : Byte × Bool :=
  if getFlag .d p then subBcd a m (getFlag .c p) else subBin a m (getFlag .c p)

/-- P after an addition or subtraction with result `r`, carry `c` and overflow `v` (R103, R125, R126). -/
def arithStatus (r : Byte) (c v : Bool) (p : Byte) : Byte := setZN r (setFlag .v v (setFlag .c c p))

/-- P after comparing a register with a memory byte (R127): C is "register >= memory" unsigned, Z and N from the
difference; no carry-in, D ignored (D9). -/
def compareStatus (reg m p : Byte) : Byte := setZN (reg - m) (setFlag .c (decide (m ≤ reg)) p)

/-- P after BIT (R124): Z from A & M, N and V copied from bits 7 and 6 of M. -/
def bitStatus (a m p : Byte) : Byte :=
  setFlag .v (m.getLsbD 6) (setFlag .n (m.getLsbD 7) (setFlag .z ((a &&& m) == 0#8) p))

/-- P after a shift or rotate with result `r` that shifted out `c` (R100). -/
def shiftStatus (r : Byte) (c : Bool) (p : Byte) : Byte := setZN r (setFlag .c c p)

/-- ASL (R138): result and new P. -/
def aslResult (v p : Byte) : Byte × Byte := (v <<< 1, shiftStatus (v <<< 1) (v.getLsbD 7) p)

/-- LSR (R139): result and new P. -/
def lsrResult (v p : Byte) : Byte × Byte := (v >>> 1, shiftStatus (v >>> 1) (v.getLsbD 0) p)

/-- The byte ROL writes: the old C enters bit 0 (R140). -/
def rolByte (v : Byte) (cin : Bool) : Byte := (v <<< 1) ||| (if cin then 0x01#8 else 0x00#8)

/-- ROL (R140): result and new P. -/
def rolResult (v p : Byte) : Byte × Byte :=
  (rolByte v (getFlag .c p), shiftStatus (rolByte v (getFlag .c p)) (v.getLsbD 7) p)

/-- The byte ROR writes: the old C enters bit 7 (R141). -/
def rorByte (v : Byte) (cin : Bool) : Byte := (v >>> 1) ||| (if cin then 0x80#8 else 0x00#8)

/-- ROR (R141): result and new P. -/
def rorResult (v p : Byte) : Byte × Byte :=
  (rorByte v (getFlag .c p), shiftStatus (rorByte v (getFlag .c p)) (v.getLsbD 0) p)

/-- INC (R132): result and new P. -/
def incResult (v p : Byte) : Byte × Byte := (v + 1#8, setZN (v + 1#8) p)

/-- DEC (R133): result and new P. -/
def decResult (v p : Byte) : Byte × Byte := (v - 1#8, setZN (v - 1#8) p)

end Sys2Proof.Machine
end

