-- ==== Sys2Proof/Machine/Ops.lean ====
section
/-! DEFINITION. The named operations over registers, bus and stack that every meaning is written with: register writes, bus
primitives (`00_scope.md` R10), `fetchPC` (R11), the stack primitives (`20_memory.md` R50 to R53), taking an exception
(`60_exceptions.md` R168) and returning from one (R171), and the end of an instruction (`40_fetch_execute.md` R75). -/

namespace Sys2Proof.Machine

def State.setA (s : State) (v : Byte) : State := { s with a := v }
def State.setX (s : State) (v : Byte) : State := { s with x := v }
def State.setY (s : State) (v : Byte) : State := { s with y := v }
def State.setSP (s : State) (v : Byte) : State := { s with sp := v }
def State.setP (s : State) (v : Byte) : State := { s with p := v }
def State.setPC (s : State) (v : Word) : State := { s with pc := v }
def State.setPhase (s : State) (v : Phase) : State := { s with phase := v }
def State.setLastReturn (s : State) (v : Option ExecReturn) : State := { s with lastReturn := v }
def State.setBus (s : State) (v : Bus) : State := { s with bus := v }
def State.setClock (s : State) (v : Clock) : State := { s with clock := v }
def State.setAgenda (s : State) (v : List Move) : State := { s with agenda := v }

/-- The reset vector's low byte; the high byte follows it (`20_memory.md` R48). -/
def resetVector : Word := 0xFFFC#16

/-- The IRQ/BRK vector's low byte; the high byte follows it (`20_memory.md` R48). -/
def breakVector : Word := 0xFFFE#16

/-- `MemRead(addr, 1)`: one bus transaction (R10). -/
def busRead (addr : Word) (s : State) : Byte × State := (s.bus.value addr, s.setBus (s.bus.afterRead addr))

/-- `MemWrite(addr, 1, v)`: one bus transaction (R10). -/
def busWrite (addr : Word) (v : Byte) (s : State) : State := s.setBus (s.bus.afterWrite addr v)

/-- Two reads, the low byte's first: a vector, or a pointer whose high byte lies at `high` (R43, D4). -/
def readWord (low high : Word) (s : State) : Word × State :=
  let l := busRead low s
  let h := busRead high l.2
  (w16 l.1 h.1, h.2)

/-- `fetchPC()` (R11): read the byte at PC, then advance PC by 1 modulo 65536. -/
def fetchPC (s : State) : Byte × State :=
  let r := busRead s.pc s
  (r.1, r.2.setPC (s.pc + 1#16))

/-- `push(v)` (R50): store at `0x0100 | SP`, then decrement SP modulo 256. -/
def push (v : Byte) (s : State) : State := (busWrite (stackAddr s.sp) v s).setSP (s.sp - 1#8)

/-- `pull()` (R51): increment SP modulo 256, then read at `0x0100 | SP`. -/
def pull (s : State) : Byte × State := busRead (stackAddr (s.sp + 1#8)) (s.setSP (s.sp + 1#8))

/-- `push16(v)` (R52): "push high, then low". -/
def push16 (v : Word) (s : State) : State := push (lo v) (push (hi v) s)

/-- `pull16()` (R53): "pull low, then high". -/
def pull16 (s : State) : Word × State :=
  let l := pull s
  let h := pull l.2
  (w16 l.1 h.1, h.2)

/-- TAKING AN EXCEPTION (`60_exceptions.md` R168, `46_flags_system.md` R162): save the return address (high byte first)
and then P with B forced set in the pushed copy, set I and nothing else of P, and go on at the address in the IRQ/BRK
vector, read low byte first. -/
def takeException (returnAddr : Word) (s : State) : State :=
  let saved := push (pushedStatus s.p) (push16 returnAddr s)
  let masked := saved.setP (setFlag .i true saved.p)
  let target := readWord breakVector (breakVector + 1#16) masked
  target.2.setPC target.1

/-- RETURNING FROM AN EXCEPTION (`60_exceptions.md` R171, `46_flags_system.md` R163): pull all eight bits of P, then the
return address, which is not adjusted. -/
def returnFromException (s : State) : State :=
  let status := pull s
  let addr := pull16 (status.2.setP status.1)
  addr.2.setPC addr.1

/-- A clock's count, seen through a reference to it: the master's own, or the divider's quotient (R175, R180). -/
def ClockRef.scale (r : ClockRef) (ticks : Nat) : Nat :=
  match r with
  | .master => ticks
  | .divider d => ticks / d

/-- `clk.ticks()` on the CPU's clock (R175, R180). -/
def State.cpuTicks (s : State) : Nat := s.cpuClock.scale s.clock.ticks

/-- The end of an instruction that cost `cycles`: `phase <- Waiting(start, c)` (R75). `start` is the count sampled at the
instruction's beginning; the clock does not move inside an instruction, so it is the count now. -/
def State.finish (s : State) (cycles : Nat) : State := s.setPhase (.waiting s.cpuTicks cycles)

/-- What a meaning answers when its instruction has executed and cost `cycles`. -/
def done (cycles : Nat) (s : State) : Result := .next (s.finish cycles)

/-- What an unmapped opcode leaves once it has been fetched (R75, R165, R166): the phase is Halted and `execute` has
returned cycle count zero with the error. -/
def State.badOpcode (s : State) (op : Byte) : State :=
  (s.setPhase (.halted op)).setLastReturn (some { cycles := 0#16, error := some op })

/-- `execute` returns `(c, none)` and the phase is Ready again (R76). -/
def State.executeReturns (s : State) (cycles : Nat) : State :=
  (s.setPhase .ready).setLastReturn (some { cycles := BitVec.ofNat 16 cycles, error := none })

end Sys2Proof.Machine
end

