-- ==== Sys2Proof/Machine/Operands.lean ====
section
/-! DEFINITION. The addressing modes of `40_fetch_execute.md` section 2 (R80 to R90, R94), each as the effective address it
computes and the bus reads it makes, and the instruction shapes of R79. The operand bytes have been fetched by the step,
so PC is the post-operand PC here. -/

namespace Sys2Proof.Machine

/-- An operand that has an effective address, with its operand byte or word. -/
inductive Operand
  | immediate (value : Byte)
  | zeropage (z : Byte)
  | zeropageX (z : Byte)
  | zeropageY (z : Byte)
  | absolute (addr : Word)
  | absoluteX (addr : Word)
  | absoluteY (addr : Word)
  | indirect (ptr : Word)
  | indexedIndirectX (z : Byte)
  | indirectIndexedY (z : Byte)
  | relative (offset : Byte)
deriving DecidableEq, Repr

/-- What an addressing mode answers: the effective address, whether the page was crossed (`pen`), and the state after the
mode's own bus reads. -/
structure Located where
  addr : Word
  crossed : Bool
  state : State

/-- What reading an operand answers: the byte, whether the page was crossed, and the state after the reads. -/
structure Loaded where
  value : Byte
  crossed : Bool
  state : State

/-- An indexed address and its page-cross verdict, which compares high bytes only (R85, R86, R89, R94). -/
def indexed (base : Word) (index : Byte) (s : State) : Located :=
  { addr := base + zext16 index, crossed := hi base != hi (base + zext16 index), state := s }

/-- The 16-bit pointer at a zero-page address, wrapping within the zero page (R88, R89). -/
def zeropagePointer (z : Byte) (s : State) : Word × State := readWord (zext16 z) (zext16 (z + 1#8)) s

/-- The effective address of an operand (R80 to R90). An immediate operand's own byte stood just before the
post-operand PC (R80). -/
def locate (o : Operand) (s : State) : Located :=
  match o with
  | .immediate _ => { addr := s.pc - 1#16, crossed := false, state := s }
  | .zeropage z => { addr := zext16 z, crossed := false, state := s }
  | .zeropageX z => { addr := zext16 (z + s.x), crossed := false, state := s }
  | .zeropageY z => { addr := zext16 (z + s.y), crossed := false, state := s }
  | .absolute w => { addr := w, crossed := false, state := s }
  | .absoluteX w => indexed w s.x s
  | .absoluteY w => indexed w s.y s
  | .indirect p =>
    let t := readWord p (pageWrapNext p) s
    { addr := t.1, crossed := false, state := t.2 }
  | .indexedIndirectX z =>
    let t := zeropagePointer (z + s.x) s
    { addr := t.1, crossed := false, state := t.2 }
  | .indirectIndexedY z =>
    let t := zeropagePointer z s
    indexed t.1 s.y t.2
  | .relative off => { addr := s.pc + sext16 off, crossed := false, state := s }

/-- `M <- MemRead(EA, 1)`; an immediate operand's one read was its fetch (R80). -/
def load (o : Operand) (s : State) : Loaded :=
  match o with
  | .immediate v => { value := v, crossed := false, state := s }
  | o =>
    let ea := locate o s
    let m := busRead ea.addr ea.state
    { value := m.1, crossed := ea.crossed, state := m.2 }

/-- The page-cross cycle (R93). -/
def pageCycle (crossed : Bool) : Nat := if crossed then 1 else 0

/-- Read shape (R79): the operand is read and `f` applies the operation; the page-cross cycle counts (R93). -/
def readInstr (base : Nat) (o : Operand) (f : Byte → State → State) (s : State) : Result :=
  let m := load o s
  done (base + pageCycle m.crossed) (f m.value m.state)

/-- Write shape (R79): one write of `v` at the effective address; the page-cross cycle is discarded (R93). -/
def writeInstr (base : Nat) (o : Operand) (v : Byte) (s : State) : Result :=
  let ea := locate o s
  done base (busWrite ea.addr v ea.state)

/-- Read-modify-write shape (R79): one read and then one write at the same effective address; `f` gives the byte written
and the new P; the page-cross cycle is discarded (R93). -/
def modifyInstr (base : Nat) (o : Operand) (f : Byte → Byte → Byte × Byte) (s : State) : Result :=
  let ea := locate o s
  let m := busRead ea.addr ea.state
  let r := f m.1 m.2.p
  done base ((busWrite ea.addr r.1 m.2).setP r.2)

/-- Accumulator shape (R79, R91): the operand and the destination are A; no bus access. -/
def accumulatorInstr (f : Byte → Byte → Byte × Byte) (s : State) : Result :=
  let r := f s.a s.p
  done 2 ((s.setA r.1).setP r.2)

/-- Control shape (R79): PC takes the effective address. -/
def jumpInstr (base : Nat) (o : Operand) (s : State) : Result :=
  let ea := locate o s
  done base (ea.state.setPC ea.addr)

/-- The cycles of a branch (R145): 2, and when it is taken one more, and yet one more when the target lies on another
page than the post-operand PC. -/
def branchCycles (taken : Bool) (target pc : Word) : Nat :=
  if taken then 2 + 1 + (if hi target != hi pc then 1 else 0) else 2

/-- A conditional branch (R145). -/
def branchInstr (taken : Bool) (offset : Byte) (s : State) : Result :=
  let ea := locate (.relative offset) s
  done (branchCycles taken ea.addr s.pc) (if taken then ea.state.setPC ea.addr else ea.state)

end Sys2Proof.Machine
end

