-- ==== Sys2Proof/Machine/ControlBranch.lean ====
section
/-! DEFINITION. Jumps, subroutine calls and branches: the meaning of every form (`45_control_branch.md`), run after the step has fetched the opcode and the operand
bytes; PC is the post-operand PC. -/

namespace Sys2Proof.Machine

/-- JMP absolute (R142): 3 cycles. -/
def execJmpAbsolute (addr : Word) (s : State) : Result := jumpInstr 3 (.absolute addr) s

/-- JMP indirect (R142): 5 cycles. -/
def execJmpIndirect (ptr : Word) (s : State) : Result := jumpInstr 5 (.indirect ptr) s

/-- JSR absolute (R143): 6 cycles. -/
def execJsr (addr : Word) (s : State) : Result := done 6 ((push16 (s.pc - 1#16) s).setPC addr)

/-- RTS implied (R144): 6 cycles. -/
def execRts (s : State) : Result := done 6 ((pull16 s).2.setPC ((pull16 s).1 + 1#16))

/-- BCC relative (R146): 2 cycles and the branch cycles. -/
def execBcc (offset : Byte) (s : State) : Result := branchInstr (!(getFlag .c s.p)) offset s

/-- BCS relative (R147): 2 cycles and the branch cycles. -/
def execBcs (offset : Byte) (s : State) : Result := branchInstr (getFlag .c s.p) offset s

/-- BEQ relative (R148): 2 cycles and the branch cycles. -/
def execBeq (offset : Byte) (s : State) : Result := branchInstr (getFlag .z s.p) offset s

/-- BMI relative (R149): 2 cycles and the branch cycles. -/
def execBmi (offset : Byte) (s : State) : Result := branchInstr (getFlag .n s.p) offset s

/-- BNE relative (R150): 2 cycles and the branch cycles. -/
def execBne (offset : Byte) (s : State) : Result := branchInstr (!(getFlag .z s.p)) offset s

/-- BPL relative (R151): 2 cycles and the branch cycles. -/
def execBpl (offset : Byte) (s : State) : Result := branchInstr (!(getFlag .n s.p)) offset s

/-- BVC relative (R152): 2 cycles and the branch cycles. -/
def execBvc (offset : Byte) (s : State) : Result := branchInstr (!(getFlag .v s.p)) offset s

/-- BVS relative (R153): 2 cycles and the branch cycles. -/
def execBvs (offset : Byte) (s : State) : Result := branchInstr (getFlag .v s.p) offset s

end Sys2Proof.Machine
end

