-- ==== Sys2Proof/Machine/FlagsSystem.lean ====
section
/-! DEFINITION. Flag instructions, BRK, RTI and NOP: the meaning of every form (`46_flags_system.md`), run after the step has fetched the opcode and the operand
bytes; PC is the post-operand PC. -/

namespace Sys2Proof.Machine

/-- CLC implied (R155): 2 cycles. -/
def execClc (s : State) : Result := done 2 (s.setP (setFlag .c false s.p))

/-- CLD implied (R156): 2 cycles. -/
def execCld (s : State) : Result := done 2 (s.setP (setFlag .d false s.p))

/-- CLI implied (R157): 2 cycles. -/
def execCli (s : State) : Result := done 2 (s.setP (setFlag .i false s.p))

/-- CLV implied (R158): 2 cycles. -/
def execClv (s : State) : Result := done 2 (s.setP (setFlag .v false s.p))

/-- SEC implied (R159): 2 cycles. -/
def execSec (s : State) : Result := done 2 (s.setP (setFlag .c true s.p))

/-- SED implied (R160): 2 cycles. -/
def execSed (s : State) : Result := done 2 (s.setP (setFlag .d true s.p))

/-- SEI implied (R161): 2 cycles. -/
def execSei (s : State) : Result := done 2 (s.setP (setFlag .i true s.p))

/-- BRK implied (R162): 7 cycles. -/
def execBrk (s : State) : Result := done 7 (takeException (s.pc + 1#16) s)

/-- RTI implied (R163): 6 cycles. -/
def execRti (s : State) : Result := done 6 (returnFromException s)

/-- NOP implied (R164): 2 cycles. -/
def execNop (s : State) : Result := done 2 s

end Sys2Proof.Machine
end

