-- ==== Sys2Proof/Machine/IncDecShift.lean ====
section
/-! DEFINITION. Increment, decrement, shifts and rotates: the meaning of every form (`44_incdec_shift.md`), run after the step has fetched the opcode and the operand
bytes; PC is the post-operand PC. -/

namespace Sys2Proof.Machine

/-- INC zero page (R132): 5 cycles. -/
def execIncZeropage (z : Byte) (s : State) : Result := modifyInstr 5 (.zeropage z) incResult s

/-- INC absolute (R132): 6 cycles. -/
def execIncAbsolute (addr : Word) (s : State) : Result := modifyInstr 6 (.absolute addr) incResult s

/-- INC zero page,X (R132): 6 cycles. -/
def execIncZeropageX (z : Byte) (s : State) : Result := modifyInstr 6 (.zeropageX z) incResult s

/-- INC absolute,X (R132): 7 cycles. -/
def execIncAbsoluteX (addr : Word) (s : State) : Result := modifyInstr 7 (.absoluteX addr) incResult s

/-- DEC zero page (R133): 5 cycles. -/
def execDecZeropage (z : Byte) (s : State) : Result := modifyInstr 5 (.zeropage z) decResult s

/-- DEC absolute (R133): 6 cycles. -/
def execDecAbsolute (addr : Word) (s : State) : Result := modifyInstr 6 (.absolute addr) decResult s

/-- DEC zero page,X (R133): 6 cycles. -/
def execDecZeropageX (z : Byte) (s : State) : Result := modifyInstr 6 (.zeropageX z) decResult s

/-- DEC absolute,X (R133): 7 cycles. -/
def execDecAbsoluteX (addr : Word) (s : State) : Result := modifyInstr 7 (.absoluteX addr) decResult s

/-- INX implied (R134): 2 cycles. -/
def execInx (s : State) : Result := done 2 ((s.setX (s.x + 1#8)).setP (setZN (s.x + 1#8) s.p))

/-- INY implied (R135): 2 cycles. -/
def execIny (s : State) : Result := done 2 ((s.setY (s.y + 1#8)).setP (setZN (s.y + 1#8) s.p))

/-- DEX implied (R136): 2 cycles. -/
def execDex (s : State) : Result := done 2 ((s.setX (s.x - 1#8)).setP (setZN (s.x - 1#8) s.p))

/-- DEY implied (R137): 2 cycles. -/
def execDey (s : State) : Result := done 2 ((s.setY (s.y - 1#8)).setP (setZN (s.y - 1#8) s.p))

/-- ASL zero page (R138): 5 cycles. -/
def execAslZeropage (z : Byte) (s : State) : Result := modifyInstr 5 (.zeropage z) aslResult s

/-- ASL accumulator (R138): 2 cycles. -/
def execAslAccumulator (s : State) : Result := accumulatorInstr aslResult s

/-- ASL absolute (R138): 6 cycles. -/
def execAslAbsolute (addr : Word) (s : State) : Result := modifyInstr 6 (.absolute addr) aslResult s

/-- ASL zero page,X (R138): 6 cycles. -/
def execAslZeropageX (z : Byte) (s : State) : Result := modifyInstr 6 (.zeropageX z) aslResult s

/-- ASL absolute,X (R138): 7 cycles. -/
def execAslAbsoluteX (addr : Word) (s : State) : Result := modifyInstr 7 (.absoluteX addr) aslResult s

/-- LSR zero page (R139): 5 cycles. -/
def execLsrZeropage (z : Byte) (s : State) : Result := modifyInstr 5 (.zeropage z) lsrResult s

/-- LSR accumulator (R139): 2 cycles. -/
def execLsrAccumulator (s : State) : Result := accumulatorInstr lsrResult s

/-- LSR absolute (R139): 6 cycles. -/
def execLsrAbsolute (addr : Word) (s : State) : Result := modifyInstr 6 (.absolute addr) lsrResult s

/-- LSR zero page,X (R139): 6 cycles. -/
def execLsrZeropageX (z : Byte) (s : State) : Result := modifyInstr 6 (.zeropageX z) lsrResult s

/-- LSR absolute,X (R139): 7 cycles. -/
def execLsrAbsoluteX (addr : Word) (s : State) : Result := modifyInstr 7 (.absoluteX addr) lsrResult s

/-- ROL zero page (R140): 5 cycles. -/
def execRolZeropage (z : Byte) (s : State) : Result := modifyInstr 5 (.zeropage z) rolResult s

/-- ROL accumulator (R140): 2 cycles. -/
def execRolAccumulator (s : State) : Result := accumulatorInstr rolResult s

/-- ROL absolute (R140): 6 cycles. -/
def execRolAbsolute (addr : Word) (s : State) : Result := modifyInstr 6 (.absolute addr) rolResult s

/-- ROL zero page,X (R140): 6 cycles. -/
def execRolZeropageX (z : Byte) (s : State) : Result := modifyInstr 6 (.zeropageX z) rolResult s

/-- ROL absolute,X (R140): 7 cycles. -/
def execRolAbsoluteX (addr : Word) (s : State) : Result := modifyInstr 7 (.absoluteX addr) rolResult s

/-- ROR zero page (R141): 5 cycles. -/
def execRorZeropage (z : Byte) (s : State) : Result := modifyInstr 5 (.zeropage z) rorResult s

/-- ROR accumulator (R141): 2 cycles. -/
def execRorAccumulator (s : State) : Result := accumulatorInstr rorResult s

/-- ROR absolute (R141): 6 cycles. -/
def execRorAbsolute (addr : Word) (s : State) : Result := modifyInstr 6 (.absolute addr) rorResult s

/-- ROR zero page,X (R141): 6 cycles. -/
def execRorZeropageX (z : Byte) (s : State) : Result := modifyInstr 6 (.zeropageX z) rorResult s

/-- ROR absolute,X (R141): 7 cycles. -/
def execRorAbsoluteX (addr : Word) (s : State) : Result := modifyInstr 7 (.absoluteX addr) rorResult s

end Sys2Proof.Machine
end

