-- ==== Sys2Proof/Machine/LoadStore.lean ====
section
/-! DEFINITION. Loads and stores: the meaning of every form (`41_load_store.md`), run after the step has fetched the opcode and the operand
bytes; PC is the post-operand PC. -/

namespace Sys2Proof.Machine

/-- Load A and set Z and N (R105). -/
def loadA (m : Byte) (s : State) : State := (s.setA m).setP (setZN m s.p)

/-- Load X and set Z and N (R106). -/
def loadX (m : Byte) (s : State) : State := (s.setX m).setP (setZN m s.p)

/-- Load Y and set Z and N (R107). -/
def loadY (m : Byte) (s : State) : State := (s.setY m).setP (setZN m s.p)

/-- LDA (indirect,X) (R105): 6 cycles. -/
def execLdaIndexedIndirectX (z : Byte) (s : State) : Result := readInstr 6 (.indexedIndirectX z) loadA s

/-- LDA zero page (R105): 3 cycles. -/
def execLdaZeropage (z : Byte) (s : State) : Result := readInstr 3 (.zeropage z) loadA s

/-- LDA immediate (R105): 2 cycles. -/
def execLdaImmediate (value : Byte) (s : State) : Result := readInstr 2 (.immediate value) loadA s

/-- LDA absolute (R105): 4 cycles. -/
def execLdaAbsolute (addr : Word) (s : State) : Result := readInstr 4 (.absolute addr) loadA s

/-- LDA (indirect),Y (R105): 5 cycles and the page-cross cycle. -/
def execLdaIndirectIndexedY (z : Byte) (s : State) : Result := readInstr 5 (.indirectIndexedY z) loadA s

/-- LDA zero page,X (R105): 4 cycles. -/
def execLdaZeropageX (z : Byte) (s : State) : Result := readInstr 4 (.zeropageX z) loadA s

/-- LDA absolute,Y (R105): 4 cycles and the page-cross cycle. -/
def execLdaAbsoluteY (addr : Word) (s : State) : Result := readInstr 4 (.absoluteY addr) loadA s

/-- LDA absolute,X (R105): 4 cycles and the page-cross cycle. -/
def execLdaAbsoluteX (addr : Word) (s : State) : Result := readInstr 4 (.absoluteX addr) loadA s

/-- LDX immediate (R106): 2 cycles. -/
def execLdxImmediate (value : Byte) (s : State) : Result := readInstr 2 (.immediate value) loadX s

/-- LDX zero page (R106): 3 cycles. -/
def execLdxZeropage (z : Byte) (s : State) : Result := readInstr 3 (.zeropage z) loadX s

/-- LDX absolute (R106): 4 cycles. -/
def execLdxAbsolute (addr : Word) (s : State) : Result := readInstr 4 (.absolute addr) loadX s

/-- LDX zero page,Y (R106): 4 cycles. -/
def execLdxZeropageY (z : Byte) (s : State) : Result := readInstr 4 (.zeropageY z) loadX s

/-- LDX absolute,Y (R106): 4 cycles and the page-cross cycle. -/
def execLdxAbsoluteY (addr : Word) (s : State) : Result := readInstr 4 (.absoluteY addr) loadX s

/-- LDY immediate (R107): 2 cycles. -/
def execLdyImmediate (value : Byte) (s : State) : Result := readInstr 2 (.immediate value) loadY s

/-- LDY zero page (R107): 3 cycles. -/
def execLdyZeropage (z : Byte) (s : State) : Result := readInstr 3 (.zeropage z) loadY s

/-- LDY absolute (R107): 4 cycles. -/
def execLdyAbsolute (addr : Word) (s : State) : Result := readInstr 4 (.absolute addr) loadY s

/-- LDY zero page,X (R107): 4 cycles. -/
def execLdyZeropageX (z : Byte) (s : State) : Result := readInstr 4 (.zeropageX z) loadY s

/-- LDY absolute,X (R107): 4 cycles and the page-cross cycle. -/
def execLdyAbsoluteX (addr : Word) (s : State) : Result := readInstr 4 (.absoluteX addr) loadY s

/-- STA (indirect,X) (R108): 6 cycles. -/
def execStaIndexedIndirectX (z : Byte) (s : State) : Result := writeInstr 6 (.indexedIndirectX z) s.a s

/-- STA zero page (R108): 3 cycles. -/
def execStaZeropage (z : Byte) (s : State) : Result := writeInstr 3 (.zeropage z) s.a s

/-- STA absolute (R108): 4 cycles. -/
def execStaAbsolute (addr : Word) (s : State) : Result := writeInstr 4 (.absolute addr) s.a s

/-- STA (indirect),Y (R108): 6 cycles. -/
def execStaIndirectIndexedY (z : Byte) (s : State) : Result := writeInstr 6 (.indirectIndexedY z) s.a s

/-- STA zero page,X (R108): 4 cycles. -/
def execStaZeropageX (z : Byte) (s : State) : Result := writeInstr 4 (.zeropageX z) s.a s

/-- STA absolute,Y (R108): 5 cycles. -/
def execStaAbsoluteY (addr : Word) (s : State) : Result := writeInstr 5 (.absoluteY addr) s.a s

/-- STA absolute,X (R108): 5 cycles. -/
def execStaAbsoluteX (addr : Word) (s : State) : Result := writeInstr 5 (.absoluteX addr) s.a s

/-- STX zero page (R109): 3 cycles. -/
def execStxZeropage (z : Byte) (s : State) : Result := writeInstr 3 (.zeropage z) s.x s

/-- STX absolute (R109): 4 cycles. -/
def execStxAbsolute (addr : Word) (s : State) : Result := writeInstr 4 (.absolute addr) s.x s

/-- STX zero page,Y (R109): 4 cycles. -/
def execStxZeropageY (z : Byte) (s : State) : Result := writeInstr 4 (.zeropageY z) s.x s

/-- STY zero page (R110): 3 cycles. -/
def execStyZeropage (z : Byte) (s : State) : Result := writeInstr 3 (.zeropage z) s.y s

/-- STY absolute (R110): 4 cycles. -/
def execStyAbsolute (addr : Word) (s : State) : Result := writeInstr 4 (.absolute addr) s.y s

/-- STY zero page,X (R110): 4 cycles. -/
def execStyZeropageX (z : Byte) (s : State) : Result := writeInstr 4 (.zeropageX z) s.y s

end Sys2Proof.Machine
end

