-- ==== Sys2Proof/Machine/LogicArith.lean ====
section
/-! DEFINITION. Logic, arithmetic and compare: the meaning of every form (`43_logic_arith.md`), run after the step has fetched the opcode and the operand
bytes; PC is the post-operand PC. -/

namespace Sys2Proof.Machine

/-- A AND memory (R121). -/
def andA (m : Byte) (s : State) : State := (s.setA (s.a &&& m)).setP (setZN (s.a &&& m) s.p)

/-- A exclusive-or memory (R122). -/
def eorA (m : Byte) (s : State) : State := (s.setA (s.a ^^^ m)).setP (setZN (s.a ^^^ m) s.p)

/-- A OR memory (R123). -/
def oraA (m : Byte) (s : State) : State := (s.setA (s.a ||| m)).setP (setZN (s.a ||| m) s.p)

/-- Test bits of memory against A (R124). -/
def bitA (m : Byte) (s : State) : State := s.setP (bitStatus s.a m s.p)

/-- Add memory to A with carry, binary or BCD (R125); V from A before, memory and the result. -/
def adcA (m : Byte) (s : State) : State :=
  let r := adcSum s.a m s.p
  (s.setA r.1).setP (arithStatus r.1 r.2 (vAdd s.a m r.1) s.p)

/-- Subtract memory from A with borrow, binary or BCD (R126); V from A before, memory and the result. -/
def sbcA (m : Byte) (s : State) : State :=
  let r := sbcDifference s.a m s.p
  (s.setA r.1).setP (arithStatus r.1 r.2 (vSub s.a m r.1) s.p)

/-- Compare A with memory (R127). -/
def cmpA (m : Byte) (s : State) : State := s.setP (compareStatus s.a m s.p)

/-- Compare X with memory (R128). -/
def cmpX (m : Byte) (s : State) : State := s.setP (compareStatus s.x m s.p)

/-- Compare Y with memory (R129). -/
def cmpY (m : Byte) (s : State) : State := s.setP (compareStatus s.y m s.p)

/-- AND (indirect,X) (R121): 6 cycles. -/
def execAndIndexedIndirectX (z : Byte) (s : State) : Result := readInstr 6 (.indexedIndirectX z) andA s

/-- AND zero page (R121): 3 cycles. -/
def execAndZeropage (z : Byte) (s : State) : Result := readInstr 3 (.zeropage z) andA s

/-- AND immediate (R121): 2 cycles. -/
def execAndImmediate (value : Byte) (s : State) : Result := readInstr 2 (.immediate value) andA s

/-- AND absolute (R121): 4 cycles. -/
def execAndAbsolute (addr : Word) (s : State) : Result := readInstr 4 (.absolute addr) andA s

/-- AND (indirect),Y (R121): 5 cycles and the page-cross cycle. -/
def execAndIndirectIndexedY (z : Byte) (s : State) : Result := readInstr 5 (.indirectIndexedY z) andA s

/-- AND zero page,X (R121): 4 cycles. -/
def execAndZeropageX (z : Byte) (s : State) : Result := readInstr 4 (.zeropageX z) andA s

/-- AND absolute,Y (R121): 4 cycles and the page-cross cycle. -/
def execAndAbsoluteY (addr : Word) (s : State) : Result := readInstr 4 (.absoluteY addr) andA s

/-- AND absolute,X (R121): 4 cycles and the page-cross cycle. -/
def execAndAbsoluteX (addr : Word) (s : State) : Result := readInstr 4 (.absoluteX addr) andA s

/-- EOR (indirect,X) (R122): 6 cycles. -/
def execEorIndexedIndirectX (z : Byte) (s : State) : Result := readInstr 6 (.indexedIndirectX z) eorA s

/-- EOR zero page (R122): 3 cycles. -/
def execEorZeropage (z : Byte) (s : State) : Result := readInstr 3 (.zeropage z) eorA s

/-- EOR immediate (R122): 2 cycles. -/
def execEorImmediate (value : Byte) (s : State) : Result := readInstr 2 (.immediate value) eorA s

/-- EOR absolute (R122): 4 cycles. -/
def execEorAbsolute (addr : Word) (s : State) : Result := readInstr 4 (.absolute addr) eorA s

/-- EOR (indirect),Y (R122): 5 cycles and the page-cross cycle. -/
def execEorIndirectIndexedY (z : Byte) (s : State) : Result := readInstr 5 (.indirectIndexedY z) eorA s

/-- EOR zero page,X (R122): 4 cycles. -/
def execEorZeropageX (z : Byte) (s : State) : Result := readInstr 4 (.zeropageX z) eorA s

/-- EOR absolute,Y (R122): 4 cycles and the page-cross cycle. -/
def execEorAbsoluteY (addr : Word) (s : State) : Result := readInstr 4 (.absoluteY addr) eorA s

/-- EOR absolute,X (R122): 4 cycles and the page-cross cycle. -/
def execEorAbsoluteX (addr : Word) (s : State) : Result := readInstr 4 (.absoluteX addr) eorA s

/-- ORA (indirect,X) (R123): 6 cycles. -/
def execOraIndexedIndirectX (z : Byte) (s : State) : Result := readInstr 6 (.indexedIndirectX z) oraA s

/-- ORA zero page (R123): 3 cycles. -/
def execOraZeropage (z : Byte) (s : State) : Result := readInstr 3 (.zeropage z) oraA s

/-- ORA immediate (R123): 2 cycles. -/
def execOraImmediate (value : Byte) (s : State) : Result := readInstr 2 (.immediate value) oraA s

/-- ORA absolute (R123): 4 cycles. -/
def execOraAbsolute (addr : Word) (s : State) : Result := readInstr 4 (.absolute addr) oraA s

/-- ORA (indirect),Y (R123): 5 cycles and the page-cross cycle. -/
def execOraIndirectIndexedY (z : Byte) (s : State) : Result := readInstr 5 (.indirectIndexedY z) oraA s

/-- ORA zero page,X (R123): 4 cycles. -/
def execOraZeropageX (z : Byte) (s : State) : Result := readInstr 4 (.zeropageX z) oraA s

/-- ORA absolute,Y (R123): 4 cycles and the page-cross cycle. -/
def execOraAbsoluteY (addr : Word) (s : State) : Result := readInstr 4 (.absoluteY addr) oraA s

/-- ORA absolute,X (R123): 4 cycles and the page-cross cycle. -/
def execOraAbsoluteX (addr : Word) (s : State) : Result := readInstr 4 (.absoluteX addr) oraA s

/-- BIT zero page (R124): 3 cycles. -/
def execBitZeropage (z : Byte) (s : State) : Result := readInstr 3 (.zeropage z) bitA s

/-- BIT absolute (R124): 4 cycles. -/
def execBitAbsolute (addr : Word) (s : State) : Result := readInstr 4 (.absolute addr) bitA s

/-- ADC (indirect,X) (R125): 6 cycles. -/
def execAdcIndexedIndirectX (z : Byte) (s : State) : Result := readInstr 6 (.indexedIndirectX z) adcA s

/-- ADC zero page (R125): 3 cycles. -/
def execAdcZeropage (z : Byte) (s : State) : Result := readInstr 3 (.zeropage z) adcA s

/-- ADC immediate (R125): 2 cycles. -/
def execAdcImmediate (value : Byte) (s : State) : Result := readInstr 2 (.immediate value) adcA s

/-- ADC absolute (R125): 4 cycles. -/
def execAdcAbsolute (addr : Word) (s : State) : Result := readInstr 4 (.absolute addr) adcA s

/-- ADC (indirect),Y (R125): 5 cycles and the page-cross cycle. -/
def execAdcIndirectIndexedY (z : Byte) (s : State) : Result := readInstr 5 (.indirectIndexedY z) adcA s

/-- ADC zero page,X (R125): 4 cycles. -/
def execAdcZeropageX (z : Byte) (s : State) : Result := readInstr 4 (.zeropageX z) adcA s

/-- ADC absolute,Y (R125): 4 cycles and the page-cross cycle. -/
def execAdcAbsoluteY (addr : Word) (s : State) : Result := readInstr 4 (.absoluteY addr) adcA s

/-- ADC absolute,X (R125): 4 cycles and the page-cross cycle. -/
def execAdcAbsoluteX (addr : Word) (s : State) : Result := readInstr 4 (.absoluteX addr) adcA s

/-- SBC (indirect,X) (R126): 6 cycles. -/
def execSbcIndexedIndirectX (z : Byte) (s : State) : Result := readInstr 6 (.indexedIndirectX z) sbcA s

/-- SBC zero page (R126): 3 cycles. -/
def execSbcZeropage (z : Byte) (s : State) : Result := readInstr 3 (.zeropage z) sbcA s

/-- SBC immediate (R126): 2 cycles. -/
def execSbcImmediate (value : Byte) (s : State) : Result := readInstr 2 (.immediate value) sbcA s

/-- SBC absolute (R126): 4 cycles. -/
def execSbcAbsolute (addr : Word) (s : State) : Result := readInstr 4 (.absolute addr) sbcA s

/-- SBC (indirect),Y (R126): 5 cycles and the page-cross cycle. -/
def execSbcIndirectIndexedY (z : Byte) (s : State) : Result := readInstr 5 (.indirectIndexedY z) sbcA s

/-- SBC zero page,X (R126): 4 cycles. -/
def execSbcZeropageX (z : Byte) (s : State) : Result := readInstr 4 (.zeropageX z) sbcA s

/-- SBC absolute,Y (R126): 4 cycles and the page-cross cycle. -/
def execSbcAbsoluteY (addr : Word) (s : State) : Result := readInstr 4 (.absoluteY addr) sbcA s

/-- SBC absolute,X (R126): 4 cycles and the page-cross cycle. -/
def execSbcAbsoluteX (addr : Word) (s : State) : Result := readInstr 4 (.absoluteX addr) sbcA s

/-- CMP (indirect,X) (R127): 6 cycles. -/
def execCmpIndexedIndirectX (z : Byte) (s : State) : Result := readInstr 6 (.indexedIndirectX z) cmpA s

/-- CMP zero page (R127): 3 cycles. -/
def execCmpZeropage (z : Byte) (s : State) : Result := readInstr 3 (.zeropage z) cmpA s

/-- CMP immediate (R127): 2 cycles. -/
def execCmpImmediate (value : Byte) (s : State) : Result := readInstr 2 (.immediate value) cmpA s

/-- CMP absolute (R127): 4 cycles. -/
def execCmpAbsolute (addr : Word) (s : State) : Result := readInstr 4 (.absolute addr) cmpA s

/-- CMP (indirect),Y (R127): 5 cycles and the page-cross cycle. -/
def execCmpIndirectIndexedY (z : Byte) (s : State) : Result := readInstr 5 (.indirectIndexedY z) cmpA s

/-- CMP zero page,X (R127): 4 cycles. -/
def execCmpZeropageX (z : Byte) (s : State) : Result := readInstr 4 (.zeropageX z) cmpA s

/-- CMP absolute,Y (R127): 4 cycles and the page-cross cycle. -/
def execCmpAbsoluteY (addr : Word) (s : State) : Result := readInstr 4 (.absoluteY addr) cmpA s

/-- CMP absolute,X (R127): 4 cycles and the page-cross cycle. -/
def execCmpAbsoluteX (addr : Word) (s : State) : Result := readInstr 4 (.absoluteX addr) cmpA s

/-- CPX immediate (R128): 2 cycles. -/
def execCpxImmediate (value : Byte) (s : State) : Result := readInstr 2 (.immediate value) cmpX s

/-- CPX zero page (R128): 3 cycles. -/
def execCpxZeropage (z : Byte) (s : State) : Result := readInstr 3 (.zeropage z) cmpX s

/-- CPX absolute (R128): 4 cycles. -/
def execCpxAbsolute (addr : Word) (s : State) : Result := readInstr 4 (.absolute addr) cmpX s

/-- CPY immediate (R129): 2 cycles. -/
def execCpyImmediate (value : Byte) (s : State) : Result := readInstr 2 (.immediate value) cmpY s

/-- CPY zero page (R129): 3 cycles. -/
def execCpyZeropage (z : Byte) (s : State) : Result := readInstr 3 (.zeropage z) cmpY s

/-- CPY absolute (R129): 4 cycles. -/
def execCpyAbsolute (addr : Word) (s : State) : Result := readInstr 4 (.absolute addr) cmpY s

end Sys2Proof.Machine
end

