-- ==== Sys2Proof/Machine/TransferStack.lean ====
section
/-! DEFINITION. Register transfers and stack instructions: the meaning of every form (`42_transfer_stack.md`), run after the step has fetched the opcode and the operand
bytes; PC is the post-operand PC. -/

namespace Sys2Proof.Machine

/-- TAX implied (R111): 2 cycles. -/
def execTax (s : State) : Result := done 2 ((s.setX s.a).setP (setZN s.a s.p))

/-- TAY implied (R112): 2 cycles. -/
def execTay (s : State) : Result := done 2 ((s.setY s.a).setP (setZN s.a s.p))

/-- TXA implied (R113): 2 cycles. -/
def execTxa (s : State) : Result := done 2 ((s.setA s.x).setP (setZN s.x s.p))

/-- TYA implied (R114): 2 cycles. -/
def execTya (s : State) : Result := done 2 ((s.setA s.y).setP (setZN s.y s.p))

/-- TSX implied (R115): 2 cycles. -/
def execTsx (s : State) : Result := done 2 ((s.setX s.sp).setP (setZN s.sp s.p))

/-- TXS implied (R116): 2 cycles. -/
def execTxs (s : State) : Result := done 2 (s.setSP s.x)

/-- PHA implied (R117): 3 cycles. -/
def execPha (s : State) : Result := done 3 (push s.a s)

/-- PHP implied (R118): 3 cycles. -/
def execPhp (s : State) : Result := done 3 (push (pushedStatus s.p) s)

/-- PLA implied (R119): 4 cycles. -/
def execPla (s : State) : Result := done 4 (((pull s).2.setA (pull s).1).setP (setZN (pull s).1 s.p))

/-- PLP implied (R120): 4 cycles. -/
def execPlp (s : State) : Result := done 4 ((pull s).2.setP (pull s).1)

end Sys2Proof.Machine
end

