-- ==== Sys2Proof/Machine/Dispatch.lean ====
section
/-! DEFINITION. One arm per instruction, in the order of the opcode table (`30_encoding.md` R64). -/

namespace Sys2Proof.Machine

def exec (i : Instr) (s : State) : Host.Outcome State Fault Refusal :=
  match i with
  | .brk => Sys2Proof.Machine.execBrk s
  | .oraIndexedIndirectX z => Sys2Proof.Machine.execOraIndexedIndirectX z s
  | .oraZeropage z => Sys2Proof.Machine.execOraZeropage z s
  | .aslZeropage z => Sys2Proof.Machine.execAslZeropage z s
  | .php => Sys2Proof.Machine.execPhp s
  | .oraImmediate value => Sys2Proof.Machine.execOraImmediate value s
  | .aslAccumulator => Sys2Proof.Machine.execAslAccumulator s
  | .oraAbsolute addr => Sys2Proof.Machine.execOraAbsolute addr s
  | .aslAbsolute addr => Sys2Proof.Machine.execAslAbsolute addr s
  | .bpl offset => Sys2Proof.Machine.execBpl offset s
  | .oraIndirectIndexedY z => Sys2Proof.Machine.execOraIndirectIndexedY z s
  | .oraZeropageX z => Sys2Proof.Machine.execOraZeropageX z s
  | .aslZeropageX z => Sys2Proof.Machine.execAslZeropageX z s
  | .clc => Sys2Proof.Machine.execClc s
  | .oraAbsoluteY addr => Sys2Proof.Machine.execOraAbsoluteY addr s
  | .oraAbsoluteX addr => Sys2Proof.Machine.execOraAbsoluteX addr s
  | .aslAbsoluteX addr => Sys2Proof.Machine.execAslAbsoluteX addr s
  | .jsr addr => Sys2Proof.Machine.execJsr addr s
  | .andIndexedIndirectX z => Sys2Proof.Machine.execAndIndexedIndirectX z s
  | .bitZeropage z => Sys2Proof.Machine.execBitZeropage z s
  | .andZeropage z => Sys2Proof.Machine.execAndZeropage z s
  | .rolZeropage z => Sys2Proof.Machine.execRolZeropage z s
  | .plp => Sys2Proof.Machine.execPlp s
  | .andImmediate value => Sys2Proof.Machine.execAndImmediate value s
  | .rolAccumulator => Sys2Proof.Machine.execRolAccumulator s
  | .bitAbsolute addr => Sys2Proof.Machine.execBitAbsolute addr s
  | .andAbsolute addr => Sys2Proof.Machine.execAndAbsolute addr s
  | .rolAbsolute addr => Sys2Proof.Machine.execRolAbsolute addr s
  | .bmi offset => Sys2Proof.Machine.execBmi offset s
  | .andIndirectIndexedY z => Sys2Proof.Machine.execAndIndirectIndexedY z s
  | .andZeropageX z => Sys2Proof.Machine.execAndZeropageX z s
  | .rolZeropageX z => Sys2Proof.Machine.execRolZeropageX z s
  | .sec => Sys2Proof.Machine.execSec s
  | .andAbsoluteY addr => Sys2Proof.Machine.execAndAbsoluteY addr s
  | .andAbsoluteX addr => Sys2Proof.Machine.execAndAbsoluteX addr s
  | .rolAbsoluteX addr => Sys2Proof.Machine.execRolAbsoluteX addr s
  | .rti => Sys2Proof.Machine.execRti s
  | .eorIndexedIndirectX z => Sys2Proof.Machine.execEorIndexedIndirectX z s
  | .eorZeropage z => Sys2Proof.Machine.execEorZeropage z s
  | .lsrZeropage z => Sys2Proof.Machine.execLsrZeropage z s
  | .pha => Sys2Proof.Machine.execPha s
  | .eorImmediate value => Sys2Proof.Machine.execEorImmediate value s
  | .lsrAccumulator => Sys2Proof.Machine.execLsrAccumulator s
  | .jmpAbsolute addr => Sys2Proof.Machine.execJmpAbsolute addr s
  | .eorAbsolute addr => Sys2Proof.Machine.execEorAbsolute addr s
  | .lsrAbsolute addr => Sys2Proof.Machine.execLsrAbsolute addr s
  | .bvc offset => Sys2Proof.Machine.execBvc offset s
  | .eorIndirectIndexedY z => Sys2Proof.Machine.execEorIndirectIndexedY z s
  | .eorZeropageX z => Sys2Proof.Machine.execEorZeropageX z s
  | .lsrZeropageX z => Sys2Proof.Machine.execLsrZeropageX z s
  | .cli => Sys2Proof.Machine.execCli s
  | .eorAbsoluteY addr => Sys2Proof.Machine.execEorAbsoluteY addr s
  | .eorAbsoluteX addr => Sys2Proof.Machine.execEorAbsoluteX addr s
  | .lsrAbsoluteX addr => Sys2Proof.Machine.execLsrAbsoluteX addr s
  | .rts => Sys2Proof.Machine.execRts s
  | .adcIndexedIndirectX z => Sys2Proof.Machine.execAdcIndexedIndirectX z s
  | .adcZeropage z => Sys2Proof.Machine.execAdcZeropage z s
  | .rorZeropage z => Sys2Proof.Machine.execRorZeropage z s
  | .pla => Sys2Proof.Machine.execPla s
  | .adcImmediate value => Sys2Proof.Machine.execAdcImmediate value s
  | .rorAccumulator => Sys2Proof.Machine.execRorAccumulator s
  | .jmpIndirect ptr => Sys2Proof.Machine.execJmpIndirect ptr s
  | .adcAbsolute addr => Sys2Proof.Machine.execAdcAbsolute addr s
  | .rorAbsolute addr => Sys2Proof.Machine.execRorAbsolute addr s
  | .bvs offset => Sys2Proof.Machine.execBvs offset s
  | .adcIndirectIndexedY z => Sys2Proof.Machine.execAdcIndirectIndexedY z s
  | .adcZeropageX z => Sys2Proof.Machine.execAdcZeropageX z s
  | .rorZeropageX z => Sys2Proof.Machine.execRorZeropageX z s
  | .sei => Sys2Proof.Machine.execSei s
  | .adcAbsoluteY addr => Sys2Proof.Machine.execAdcAbsoluteY addr s
  | .adcAbsoluteX addr => Sys2Proof.Machine.execAdcAbsoluteX addr s
  | .rorAbsoluteX addr => Sys2Proof.Machine.execRorAbsoluteX addr s
  | .staIndexedIndirectX z => Sys2Proof.Machine.execStaIndexedIndirectX z s
  | .styZeropage z => Sys2Proof.Machine.execStyZeropage z s
  | .staZeropage z => Sys2Proof.Machine.execStaZeropage z s
  | .stxZeropage z => Sys2Proof.Machine.execStxZeropage z s
  | .dey => Sys2Proof.Machine.execDey s
  | .txa => Sys2Proof.Machine.execTxa s
  | .styAbsolute addr => Sys2Proof.Machine.execStyAbsolute addr s
  | .staAbsolute addr => Sys2Proof.Machine.execStaAbsolute addr s
  | .stxAbsolute addr => Sys2Proof.Machine.execStxAbsolute addr s
  | .bcc offset => Sys2Proof.Machine.execBcc offset s
  | .staIndirectIndexedY z => Sys2Proof.Machine.execStaIndirectIndexedY z s
  | .styZeropageX z => Sys2Proof.Machine.execStyZeropageX z s
  | .staZeropageX z => Sys2Proof.Machine.execStaZeropageX z s
  | .stxZeropageY z => Sys2Proof.Machine.execStxZeropageY z s
  | .tya => Sys2Proof.Machine.execTya s
  | .staAbsoluteY addr => Sys2Proof.Machine.execStaAbsoluteY addr s
  | .txs => Sys2Proof.Machine.execTxs s
  | .staAbsoluteX addr => Sys2Proof.Machine.execStaAbsoluteX addr s
  | .ldyImmediate value => Sys2Proof.Machine.execLdyImmediate value s
  | .ldaIndexedIndirectX z => Sys2Proof.Machine.execLdaIndexedIndirectX z s
  | .ldxImmediate value => Sys2Proof.Machine.execLdxImmediate value s
  | .ldyZeropage z => Sys2Proof.Machine.execLdyZeropage z s
  | .ldaZeropage z => Sys2Proof.Machine.execLdaZeropage z s
  | .ldxZeropage z => Sys2Proof.Machine.execLdxZeropage z s
  | .tay => Sys2Proof.Machine.execTay s
  | .ldaImmediate value => Sys2Proof.Machine.execLdaImmediate value s
  | .tax => Sys2Proof.Machine.execTax s
  | .ldyAbsolute addr => Sys2Proof.Machine.execLdyAbsolute addr s
  | .ldaAbsolute addr => Sys2Proof.Machine.execLdaAbsolute addr s
  | .ldxAbsolute addr => Sys2Proof.Machine.execLdxAbsolute addr s
  | .bcs offset => Sys2Proof.Machine.execBcs offset s
  | .ldaIndirectIndexedY z => Sys2Proof.Machine.execLdaIndirectIndexedY z s
  | .ldyZeropageX z => Sys2Proof.Machine.execLdyZeropageX z s
  | .ldaZeropageX z => Sys2Proof.Machine.execLdaZeropageX z s
  | .ldxZeropageY z => Sys2Proof.Machine.execLdxZeropageY z s
  | .clv => Sys2Proof.Machine.execClv s
  | .ldaAbsoluteY addr => Sys2Proof.Machine.execLdaAbsoluteY addr s
  | .tsx => Sys2Proof.Machine.execTsx s
  | .ldyAbsoluteX addr => Sys2Proof.Machine.execLdyAbsoluteX addr s
  | .ldaAbsoluteX addr => Sys2Proof.Machine.execLdaAbsoluteX addr s
  | .ldxAbsoluteY addr => Sys2Proof.Machine.execLdxAbsoluteY addr s
  | .cpyImmediate value => Sys2Proof.Machine.execCpyImmediate value s
  | .cmpIndexedIndirectX z => Sys2Proof.Machine.execCmpIndexedIndirectX z s
  | .cpyZeropage z => Sys2Proof.Machine.execCpyZeropage z s
  | .cmpZeropage z => Sys2Proof.Machine.execCmpZeropage z s
  | .decZeropage z => Sys2Proof.Machine.execDecZeropage z s
  | .iny => Sys2Proof.Machine.execIny s
  | .cmpImmediate value => Sys2Proof.Machine.execCmpImmediate value s
  | .dex => Sys2Proof.Machine.execDex s
  | .cpyAbsolute addr => Sys2Proof.Machine.execCpyAbsolute addr s
  | .cmpAbsolute addr => Sys2Proof.Machine.execCmpAbsolute addr s
  | .decAbsolute addr => Sys2Proof.Machine.execDecAbsolute addr s
  | .bne offset => Sys2Proof.Machine.execBne offset s
  | .cmpIndirectIndexedY z => Sys2Proof.Machine.execCmpIndirectIndexedY z s
  | .cmpZeropageX z => Sys2Proof.Machine.execCmpZeropageX z s
  | .decZeropageX z => Sys2Proof.Machine.execDecZeropageX z s
  | .cld => Sys2Proof.Machine.execCld s
  | .cmpAbsoluteY addr => Sys2Proof.Machine.execCmpAbsoluteY addr s
  | .cmpAbsoluteX addr => Sys2Proof.Machine.execCmpAbsoluteX addr s
  | .decAbsoluteX addr => Sys2Proof.Machine.execDecAbsoluteX addr s
  | .cpxImmediate value => Sys2Proof.Machine.execCpxImmediate value s
  | .sbcIndexedIndirectX z => Sys2Proof.Machine.execSbcIndexedIndirectX z s
  | .cpxZeropage z => Sys2Proof.Machine.execCpxZeropage z s
  | .sbcZeropage z => Sys2Proof.Machine.execSbcZeropage z s
  | .incZeropage z => Sys2Proof.Machine.execIncZeropage z s
  | .inx => Sys2Proof.Machine.execInx s
  | .sbcImmediate value => Sys2Proof.Machine.execSbcImmediate value s
  | .nop => Sys2Proof.Machine.execNop s
  | .cpxAbsolute addr => Sys2Proof.Machine.execCpxAbsolute addr s
  | .sbcAbsolute addr => Sys2Proof.Machine.execSbcAbsolute addr s
  | .incAbsolute addr => Sys2Proof.Machine.execIncAbsolute addr s
  | .beq offset => Sys2Proof.Machine.execBeq offset s
  | .sbcIndirectIndexedY z => Sys2Proof.Machine.execSbcIndirectIndexedY z s
  | .sbcZeropageX z => Sys2Proof.Machine.execSbcZeropageX z s
  | .incZeropageX z => Sys2Proof.Machine.execIncZeropageX z s
  | .sed => Sys2Proof.Machine.execSed s
  | .sbcAbsoluteY addr => Sys2Proof.Machine.execSbcAbsoluteY addr s
  | .sbcAbsoluteX addr => Sys2Proof.Machine.execSbcAbsoluteX addr s
  | .incAbsoluteX addr => Sys2Proof.Machine.execIncAbsoluteX addr s

end Sys2Proof.Machine
end

