-- ==== Sys2Proof/Machine/Clock.lean ====
section
/-! DEFINITION. The clock: `start`, `stop`, `await`, the producer's tick, dividers (`60_exceptions.md` R175 to R184), and the
CPU's barrier on it (`40_fetch_execute.md` R76). -/

namespace Sys2Proof.Machine

/-- A target of a clock in ticks of the master: a divider delegates `await(t)` to `master.await(t*divisor)` (R180). -/
def ClockRef.toMaster (r : ClockRef) (target : Nat) : Nat :=
  match r with
  | .master => target
  | .divider d => target * d

/-- A divider's divisor is at least 1 (R180). -/
def ClockRef.valid (r : ClockRef) : Bool :=
  match r with
  | .master => true
  | .divider d => decide (1 ≤ d)

/-- `clk.start()` (R176): begin advancing; return the count; nothing more on a running clock. Called through a divider it is
routed to the master (R180, D24), and the caller gets the master's count (DESIGN CHOICE, log 26). -/
def Clock.start (c : Clock) : Clock := { c with running := true, returns := .start c.ticks :: c.returns }

/-- A waiter released at its target (R179). -/
def Waiter.reached (w : Waiter) : Release := { waiter := w, drainedAt := none }

/-- A waiter released by a draining stop at a count (R183). -/
def Waiter.drained (count : Nat) (w : Waiter) : Release := { waiter := w, drainedAt := some count }

/-- `clk.stop()` (R177), with the waiters treated as the parameter `clockStopPolicy` says (R183, D21): `block` leaves them
registered, `drain` releases every one at once with the current count. "Stopping a stopped clock is a no-op" (R177), so it
drains nobody (DEDUCED, log 18). -/
def Clock.stop (c : Clock) : Clock :=
  if c.running then
    match c.policy with
    | .block => { c with running := false }
    | .drain =>
      { c with running := false, waiters := [], released := c.released ++ c.waiters.map (Waiter.drained c.ticks) }
  else c

/-- The producer's step (R179): enabled only while the clock runs; the count advances by one, and every waiter whose
target equals the new count is released and removed. -/
def Clock.tick (c : Clock) : Clock :=
  if c.running then
    { c with
      ticks := c.ticks + 1
      waiters := c.waiters.filter fun w => w.target != c.ticks + 1
      released := c.released ++ (c.waiters.filter fun w => w.target == c.ticks + 1).map Waiter.reached }
  else c

/-- The producer's step `n` times. -/
def Clock.tickTimes : Nat → Clock → Clock
  | 0, c => c
  | n + 1, c => Clock.tickTimes n c.tick

/-- Register a waiter (R178); the target is in ticks of the clock it waits on. -/
def Clock.register (c : Clock) (caller : Caller) (r : ClockRef) (target : Nat) : Clock :=
  { c with waiters := c.waiters ++ [{ caller := caller, clock := r, target := r.toMaster target }] }

/-- Whether a caller's waiter has been released and not yet resumed. -/
def Clock.hasReleased (c : Clock) (caller : Caller) : Bool := c.released.any fun r => r.waiter.caller == caller

/-- Whether a caller is registered and blocked. -/
def Clock.hasWaiting (c : Clock) (caller : Caller) : Bool := c.waiters.any fun w => w.caller == caller

/-- A caller's first released waiter, if it has one. -/
def Clock.findReleased (c : Clock) (caller : Caller) : Option Release :=
  c.released.find? fun r => r.waiter.caller == caller

/-- Take a caller's first released waiter out: its caller has resumed (DESIGN CHOICE: the oldest, log 16). -/
def Clock.dropReleased (c : Clock) (caller : Caller) : Clock :=
  { c with released := c.released.eraseP fun r => r.waiter.caller == caller }

/-- The free value of an `await` on the master: any count v with `target <= v <= ticks` (R178, D22; DESIGN CHOICE: its form, log 11). -/
def Clock.freeReturn (c : Clock) (target : Nat) : Nat := target + Config.awaitSlack c.draws % (c.ticks - target + 1)

/-- The count an `await` returns to a consumer that resumes now (R178, R180, R183): a divider drops what its master's `await`
returned and answers its own quotient, `master.ticks() div d`, as it returns; the master answers a free value in the
allowed range, or the count at which a draining stop released the waiter. -/
def Clock.awaitCount (c : Clock) (w : Waiter) (drainedAt : Option Nat) : Nat :=
  match w.clock, drainedAt with
  | .divider d, _ => c.ticks / d
  | .master, some n => n
  | .master, none => c.freeReturn w.target

/-- Record the count an `await` returned to a consumer. -/
def Clock.returned (c : Clock) (id : Nat) (w : Waiter) (drainedAt : Option Nat) : Clock :=
  { c with returns := .await id (c.awaitCount w drainedAt) :: c.returns, draws := c.draws + 1 }

/-- Another consumer's `await(target)` (R178): it returns at once if the target has already passed, else registers. -/
def Clock.consumerAwait (c : Clock) (id : Nat) (r : ClockRef) (target : Nat) : Clock :=
  if r.toMaster target ≤ c.ticks then
    c.returned id { caller := .consumer id, clock := r, target := r.toMaster target } none
  else c.register (.consumer id) r target

/-- A released consumer resumes (R179, D23); nothing happens if it has not been released. -/
def Clock.consumerResume (c : Clock) (id : Nat) : Clock :=
  match c.findReleased (.consumer id) with
  | some r => (c.dropReleased (.consumer id)).returned id r.waiter r.drainedAt
  | none => c

/-- The CPU's own step in its barrier (R76, R178): released, it resumes (DEDUCED after a drain, log 19); registered, it is blocked; otherwise `await` returns
at once if the target has been reached, and registers the CPU if not. On its return `execute` returns `(c, none)` and the
phase is Ready. -/
def barrierStep (start cycles : Nat) (s : State) : State :=
  if s.clock.hasReleased .cpu then (s.setClock (s.clock.dropReleased .cpu)).executeReturns cycles
  else if s.clock.hasWaiting .cpu then s
  else if s.cpuClock.toMaster (start + cycles) ≤ s.clock.ticks then s.executeReturns cycles
  else s.setClock (s.clock.register .cpu s.cpuClock (start + cycles))

/-- The producer's steps up to a count of the master (R179): none if the clock is stopped or the count is reached. -/
def advanceClock (target : Nat) (s : State) : State :=
  s.setClock (s.clock.tickTimes (target - s.clock.ticks))

/-- The barrier when no other agent moves: the CPU's step; if it blocks, the producer's steps up to the target, and the
CPU's step again (DESIGN CHOICE, log 12). On a stopped clock the CPU stays blocked: "a hang, not an error" (R187; DESIGN
CHOICE: a step that changes nothing, log 13). -/
def barrier (start cycles : Nat) (s : State) : State :=
  let entered := barrierStep start cycles s
  if entered.phase = .ready then entered
  else barrierStep start cycles (advanceClock (s.cpuClock.toMaster (start + cycles)) entered)

end Sys2Proof.Machine
end

