-- ==== Sys2Proof/Machine/HostOps.lean ====
section
/-! DEFINITION. The host's calls into the CPU: `new` and `reset` (`70_reset_and_hazards.md` R190 to R194). -/

namespace Sys2Proof.Machine

/-- The register writes of `reset()` before its vector read (R191): A = X = Y = 0, P = 0x04 (I set, all others clear),
SP = 0xFD, and the phase Ready, which also leaves Halted (R166). -/
def State.resetRegisters (s : State) : State :=
  (((((s.setA 0x00#8).setX 0x00#8).setY 0x00#8).setP 0x04#8).setSP 0xFD#8).setPhase .ready

/-- `reset()` (R191) in the spec's order (D17): the bus's own reset, the registers, then the vector read from the
post-reset bus, low byte first. The clock is not touched. -/
def State.afterReset (s : State) : State :=
  let t := readWord resetVector (resetVector + 1#16) (s.setBus s.bus.afterBusReset).resetRegisters
  t.2.setPC t.1

/-- The launch premise of `reset()` at one address of the vector (R192): the bus's own reset leaves the byte as it was. A
byte that is not bound to RAM has no stored value to compare (DESIGN CHOICE, log 5). -/
def Bus.keepsByte (b : Bus) (addr : Word) : Bool := b.isDevice addr || b.afterBusReset.peek addr == b.peek addr

/-- The launch premise of `reset()` (R192, D17): the vector bytes survive the bus's own reset. -/
def Bus.keepsVector (b : Bus) : Bool := b.keepsByte resetVector && b.keepsByte (resetVector + 1#16)

/-- `new(memory, clock)` (R190): every register zero, the phase Ready; no bus access and no clock call. -/
def State.construct (bus : Bus) (clock : Clock) (cpuClock : ClockRef) (agenda : List Move) : State :=
  { a := 0x00#8, x := 0x00#8, y := 0x00#8, sp := 0x00#8, p := 0x00#8, pc := 0x0000#16, phase := .ready,
    lastReturn := none, bus := bus, clock := clock, cpuClock := cpuClock, agenda := agenda }

/-- The host may call into the CPU only between instructions: in its barrier `execute` has not returned (R187, R194). -/
def Phase.inBarrier : Phase → Bool
  | .ready => false
  | .waiting _ _ => true
  | .halted _ => false

/-- The host's `reset()`; refused in the barrier (R194) and where the launch premise fails (R192). -/
def hostReset (s : State) : Result :=
  if s.phase.inBarrier then .refused .hostCallInBarrier
  else if s.bus.keepsVector then .next s.afterReset
  else .refused .resetVectorChanged

/-- The bus a new CPU is constructed on: the given one, under the event history and the count of free values that the machine
has (DESIGN CHOICE, log 27). -/
def GivenBus.pick (g : GivenBus) (b : Bus) : Bus :=
  match g with
  | .same => b
  | .other n => { n with history := b.history, draws := b.draws }

/-- The master clock a new CPU is constructed on: the given one, under the record of returned counts and the count of free
values that the machine has (DESIGN CHOICE, log 27). -/
def GivenClock.pick (g : GivenClock) (c : Clock) : Clock :=
  match g with
  | .same => c
  | .other n => { n with returns := c.returns, draws := c.draws }

/-- The host's `new(memory, clock)` (R166, R187, R190); refused in the barrier (DEDUCED, log 15), and with a divider of divisor
0 (log 20). What the old CPU has returned is forgotten with it (DESIGN CHOICE, log 24). -/
def hostConstruct (bus : GivenBus) (clock : GivenClock) (cpuClock : ClockRef) (s : State) : Result :=
  if s.phase.inBarrier then .refused .hostCallInBarrier
  else if cpuClock.valid then
    .next (State.construct (bus.pick s.bus) (clock.pick s.clock) cpuClock s.agenda)
  else .refused .zeroDivisor

end Sys2Proof.Machine
end

