-- ==== Sys2Proof/Machine/Cycle.lean ====
section
/-! DEFINITION. The fetch-execute loop (`40_fetch_execute.md` R75 to R77) and the moves of all agents (`00_scope.md` R17):
everything that `step` does. -/

namespace Sys2Proof.Machine

/-- What the fetch answers: the instruction and the state with PC past its operand bytes, or the unmapped opcode byte and
the state with PC past that byte. -/
inductive Fetched
  | instr (i : Instr) (s : State)
  | unmapped (op : Byte) (s : State)

/-- Fetch the instruction at PC (R75): the opcode byte, then as many operand bytes as the opcode asks for, low byte first,
each one bus read that advances PC (R28, R60, R84; DEDUCED: before the meaning is called, log 17). -/
def fetchInstruction (s : State) : Fetched :=
  let op := fetchPC s
  match decodeOpcode op.1 with
  | none => .unmapped op.1 op.2
  | some (.alone i) => .instr i op.2
  | some (.byte f) =>
    let b := fetchPC op.2
    .instr (f b.1) b.2
  | some (.word f) =>
    let l := fetchPC op.2
    let h := fetchPC l.2
    .instr (f (w16 l.1 h.1)) h.2

/-- The instruction step (R75), atomic towards the bus (R18): fetch, then execute; an unmapped opcode halts the CPU
(DESIGN CHOICE: a next state, and the fault at the step after it, log 14). -/
def instructionStep (s : State) : Result :=
  match fetchInstruction s with
  | .instr i t => exec i t
  | .unmapped op t => .next (t.badOpcode op)

/-- The CPU's own next step in the phase it is in; a halted CPU has none (R166). -/
def cpuStep (s : State) : Result :=
  match s.phase with
  | .ready => instructionStep s
  | .waiting start cycles => .next (barrierStep start cycles s)
  | .halted op => .fault (.badOpcode op)

/-- One move of one agent (R17, R187). A move that is not enabled changes nothing (DESIGN CHOICE, log 21); a divider with
divisor 0 is none (log 20). -/
def perform (m : Move) (s : State) : Result :=
  match m with
  | .cpu => cpuStep s
  | .tick => .next (s.setClock s.clock.tick)
  | .start => .next (s.setClock s.clock.start)
  | .stop => .next (s.setClock s.clock.stop)
  | .await id r target =>
    if r.valid then .next (s.setClock (s.clock.consumerAwait id r target)) else .refused .zeroDivisor
  | .resume id => .next (s.setClock (s.clock.consumerResume id))
  | .otherRead addr => .next (s.setBus (s.bus.afterOtherRead addr))
  | .otherWrite addr v => .next (s.setBus (s.bus.afterOtherWrite addr v))
  | .reset => hostReset s
  | .construct bus clock cpuClock => hostConstruct bus clock cpuClock s

/-- The default schedule, when no move of another agent is listed: an instruction step, then its barrier (R18; DESIGN CHOICE, log 12); a
halted CPU stops the run with its error (R77). -/
def defaultStep (s : State) : Result :=
  match s.phase with
  | .ready => instructionStep s
  | .waiting start cycles => .next (barrier start cycles s)
  | .halted op => .fault (.badOpcode op)

/-- One step of the whole machine: the next listed move, or the default schedule's. -/
def machineStep (s : State) : Result :=
  match s.agenda with
  | [] => defaultStep s
  | m :: rest => perform m (s.setAgenda rest)

/-- `s` with the bytes stored at PC and after, in RAM, and nothing between the machine and their execution: the three
addresses are bound to RAM, the CPU is Ready and no other agent's move comes first (DESIGN CHOICE, log 22). -/
def placeInstruction (bytes : List Byte) (s : State) : State :=
  let covers (r : Region) : Bool := r.contains s.pc || r.contains (s.pc + 1#16) || r.contains (s.pc + 2#16)
  let bus := { s.bus with
    mem := s.bus.mem.load s.pc bytes
    devices := s.bus.devices.filter fun r => !(covers r) }
  ((s.setBus bus).setPhase .ready).setAgenda []

end Sys2Proof.Machine
end

