-- ==== Sys2Proof/Machine/Step.lean ====
section
/-! DEFINITION. The step of the machine, and an instruction placed where it fetches next. -/

namespace Sys2Proof.Machine

/-- One step: an instruction, its barrier, or a move of another agent (`40_fetch_execute.md` R75 to R77). -/
def step (s : State) : Host.Outcome State Fault Refusal := Sys2Proof.Machine.machineStep s

/-- `s` with the instruction whose bits are `w`, numbered as `opcode_table.json` numbers them, stored at PC. -/
def State.withFetchWord (s : State) (nbits w : Nat) : State :=
  Sys2Proof.Machine.placeInstruction (Sys2Proof.tableBytes nbits w) s

end Sys2Proof.Machine
end

