-- ==== Sys2Proof/Machine/OperandOf.lean ====
section
/-! DEFINITION. The operand of each instruction as an addressing mode with its operand bytes: the mode column of
`30_encoding.md` R64 read over the instructions, for statements about whole families. -/

namespace Sys2Proof.Machine

/-- The operand of an instruction; none for the implied and accumulator modes, which have no effective address (R91, R92). -/
def operandOf : Instr → Option Operand
  | .brk => none
  | .oraIndexedIndirectX v => some (.indexedIndirectX v)
  | .oraZeropage v => some (.zeropage v)
  | .aslZeropage v => some (.zeropage v)
  | .php => none
  | .oraImmediate v => some (.immediate v)
  | .aslAccumulator => none
  | .oraAbsolute v => some (.absolute v)
  | .aslAbsolute v => some (.absolute v)
  | .bpl v => some (.relative v)
  | .oraIndirectIndexedY v => some (.indirectIndexedY v)
  | .oraZeropageX v => some (.zeropageX v)
  | .aslZeropageX v => some (.zeropageX v)
  | .clc => none
  | .oraAbsoluteY v => some (.absoluteY v)
  | .oraAbsoluteX v => some (.absoluteX v)
  | .aslAbsoluteX v => some (.absoluteX v)
  | .jsr v => some (.absolute v)
  | .andIndexedIndirectX v => some (.indexedIndirectX v)
  | .bitZeropage v => some (.zeropage v)
  | .andZeropage v => some (.zeropage v)
  | .rolZeropage v => some (.zeropage v)
  | .plp => none
  | .andImmediate v => some (.immediate v)
  | .rolAccumulator => none
  | .bitAbsolute v => some (.absolute v)
  | .andAbsolute v => some (.absolute v)
  | .rolAbsolute v => some (.absolute v)
  | .bmi v => some (.relative v)
  | .andIndirectIndexedY v => some (.indirectIndexedY v)
  | .andZeropageX v => some (.zeropageX v)
  | .rolZeropageX v => some (.zeropageX v)
  | .sec => none
  | .andAbsoluteY v => some (.absoluteY v)
  | .andAbsoluteX v => some (.absoluteX v)
  | .rolAbsoluteX v => some (.absoluteX v)
  | .rti => none
  | .eorIndexedIndirectX v => some (.indexedIndirectX v)
  | .eorZeropage v => some (.zeropage v)
  | .lsrZeropage v => some (.zeropage v)
  | .pha => none
  | .eorImmediate v => some (.immediate v)
  | .lsrAccumulator => none
  | .jmpAbsolute v => some (.absolute v)
  | .eorAbsolute v => some (.absolute v)
  | .lsrAbsolute v => some (.absolute v)
  | .bvc v => some (.relative v)
  | .eorIndirectIndexedY v => some (.indirectIndexedY v)
  | .eorZeropageX v => some (.zeropageX v)
  | .lsrZeropageX v => some (.zeropageX v)
  | .cli => none
  | .eorAbsoluteY v => some (.absoluteY v)
  | .eorAbsoluteX v => some (.absoluteX v)
  | .lsrAbsoluteX v => some (.absoluteX v)
  | .rts => none
  | .adcIndexedIndirectX v => some (.indexedIndirectX v)
  | .adcZeropage v => some (.zeropage v)
  | .rorZeropage v => some (.zeropage v)
  | .pla => none
  | .adcImmediate v => some (.immediate v)
  | .rorAccumulator => none
  | .jmpIndirect v => some (.indirect v)
  | .adcAbsolute v => some (.absolute v)
  | .rorAbsolute v => some (.absolute v)
  | .bvs v => some (.relative v)
  | .adcIndirectIndexedY v => some (.indirectIndexedY v)
  | .adcZeropageX v => some (.zeropageX v)
  | .rorZeropageX v => some (.zeropageX v)
  | .sei => none
  | .adcAbsoluteY v => some (.absoluteY v)
  | .adcAbsoluteX v => some (.absoluteX v)
  | .rorAbsoluteX v => some (.absoluteX v)
  | .staIndexedIndirectX v => some (.indexedIndirectX v)
  | .styZeropage v => some (.zeropage v)
  | .staZeropage v => some (.zeropage v)
  | .stxZeropage v => some (.zeropage v)
  | .dey => none
  | .txa => none
  | .styAbsolute v => some (.absolute v)
  | .staAbsolute v => some (.absolute v)
  | .stxAbsolute v => some (.absolute v)
  | .bcc v => some (.relative v)
  | .staIndirectIndexedY v => some (.indirectIndexedY v)
  | .styZeropageX v => some (.zeropageX v)
  | .staZeropageX v => some (.zeropageX v)
  | .stxZeropageY v => some (.zeropageY v)
  | .tya => none
  | .staAbsoluteY v => some (.absoluteY v)
  | .txs => none
  | .staAbsoluteX v => some (.absoluteX v)
  | .ldyImmediate v => some (.immediate v)
  | .ldaIndexedIndirectX v => some (.indexedIndirectX v)
  | .ldxImmediate v => some (.immediate v)
  | .ldyZeropage v => some (.zeropage v)
  | .ldaZeropage v => some (.zeropage v)
  | .ldxZeropage v => some (.zeropage v)
  | .tay => none
  | .ldaImmediate v => some (.immediate v)
  | .tax => none
  | .ldyAbsolute v => some (.absolute v)
  | .ldaAbsolute v => some (.absolute v)
  | .ldxAbsolute v => some (.absolute v)
  | .bcs v => some (.relative v)
  | .ldaIndirectIndexedY v => some (.indirectIndexedY v)
  | .ldyZeropageX v => some (.zeropageX v)
  | .ldaZeropageX v => some (.zeropageX v)
  | .ldxZeropageY v => some (.zeropageY v)
  | .clv => none
  | .ldaAbsoluteY v => some (.absoluteY v)
  | .tsx => none
  | .ldyAbsoluteX v => some (.absoluteX v)
  | .ldaAbsoluteX v => some (.absoluteX v)
  | .ldxAbsoluteY v => some (.absoluteY v)
  | .cpyImmediate v => some (.immediate v)
  | .cmpIndexedIndirectX v => some (.indexedIndirectX v)
  | .cpyZeropage v => some (.zeropage v)
  | .cmpZeropage v => some (.zeropage v)
  | .decZeropage v => some (.zeropage v)
  | .iny => none
  | .cmpImmediate v => some (.immediate v)
  | .dex => none
  | .cpyAbsolute v => some (.absolute v)
  | .cmpAbsolute v => some (.absolute v)
  | .decAbsolute v => some (.absolute v)
  | .bne v => some (.relative v)
  | .cmpIndirectIndexedY v => some (.indirectIndexedY v)
  | .cmpZeropageX v => some (.zeropageX v)
  | .decZeropageX v => some (.zeropageX v)
  | .cld => none
  | .cmpAbsoluteY v => some (.absoluteY v)
  | .cmpAbsoluteX v => some (.absoluteX v)
  | .decAbsoluteX v => some (.absoluteX v)
  | .cpxImmediate v => some (.immediate v)
  | .sbcIndexedIndirectX v => some (.indexedIndirectX v)
  | .cpxZeropage v => some (.zeropage v)
  | .sbcZeropage v => some (.zeropage v)
  | .incZeropage v => some (.zeropage v)
  | .inx => none
  | .sbcImmediate v => some (.immediate v)
  | .nop => none
  | .cpxAbsolute v => some (.absolute v)
  | .sbcAbsolute v => some (.absolute v)
  | .incAbsolute v => some (.absolute v)
  | .beq v => some (.relative v)
  | .sbcIndirectIndexedY v => some (.indirectIndexedY v)
  | .sbcZeropageX v => some (.zeropageX v)
  | .incZeropageX v => some (.zeropageX v)
  | .sed => none
  | .sbcAbsoluteY v => some (.absoluteY v)
  | .sbcAbsoluteX v => some (.absoluteX v)
  | .incAbsoluteX v => some (.absoluteX v)

end Sys2Proof.Machine
end

