-- ==== Sys2Proof/Safety.lean ====
section
/-! DEFINITION. What counts as a well-formed state and a safe run, and the words the statements are written in. -/

namespace Sys2Proof.Machine

/-- How many entries of the clock are the CPU's. -/
def Clock.cpuEntries (c : Clock) : Nat :=
  (c.waiters.countP fun w => w.caller == .cpu) + (c.released.countP fun r => r.waiter.caller == .cpu)

/-- The waiter the CPU registers in its barrier (`40_fetch_execute.md` R76). -/
def State.cpuWaiter (s : State) (start cycles : Nat) : Waiter :=
  { caller := .cpu, clock := s.cpuClock, target := s.cpuClock.toMaster (start + cycles) }

/-- Every entry of the clock that is not one caller's is there as before, in the same order. -/
def Clock.OthersKept (who : Caller) (before after : Clock) : Prop :=
  (after.waiters.filter fun w => w.caller != who) = (before.waiters.filter fun w => w.caller != who) ∧
  (after.released.filter fun r => r.waiter.caller != who) = (before.released.filter fun r => r.waiter.caller != who)

/-- The CPU's place on the clock fits its phase: in its barrier it has at most one entry, for its own target, its cycle
count is one an instruction can cost and its start is no later than now; in the other phases it has none. -/
def State.cpuFits (s : State) : Prop :=
  match s.phase with
  | .waiting start cycles =>
    s.clock.cpuEntries ≤ 1 ∧
    (∀ w ∈ s.clock.waiters, w.caller = .cpu → w = s.cpuWaiter start cycles) ∧
    (∀ r ∈ s.clock.released, r.waiter.caller = .cpu → r.waiter = s.cpuWaiter start cycles) ∧
    2 ≤ cycles ∧ cycles ≤ 7 ∧ start ≤ s.cpuTicks
  | .ready => s.clock.cpuEntries = 0
  | .halted _ => s.clock.cpuEntries = 0

/-- A bus the host may send to `new`: its RAM and the image its reset leaves are in canonical form. -/
def Bus.Sound (b : Bus) : Prop := b.mem.wf = true ∧ ∀ m, b.onReset = .image m → m.wf = true

/-- A clock the host may send to `new`: every registered target is ahead, every released one reached unless drained
(`60_exceptions.md` R179), and no entry is the CPU's, which is not constructed yet. -/
def Clock.Sound (c : Clock) : Prop :=
  (∀ w ∈ c.waiters, w.caller ≠ .cpu ∧ c.ticks < w.target) ∧
  ∀ r ∈ c.released, r.waiter.caller ≠ .cpu ∧ (r.drainedAt = none → r.waiter.target ≤ c.ticks)

/-- The invariant of the machine. -/
structure State.Inv (s : State) : Prop where
  /-- RAM is in its canonical form. -/
  memory : s.bus.mem.wf = true
  /-- So is the image the bus's own reset would leave. -/
  image : ∀ m, s.bus.onReset = .image m → m.wf = true
  /-- The CPU's divider has a divisor of at least 1 (`60_exceptions.md` R180). -/
  divisor : s.cpuClock.valid = true
  /-- "every registered target is greater than ticks" (`60_exceptions.md` R179). -/
  pending : ∀ w ∈ s.clock.waiters, s.clock.ticks < w.target
  /-- "any waiter released at tick T observes ticks() >= T" (`60_exceptions.md` R179, R185), unless a stop drained it. -/
  reached : ∀ r ∈ s.clock.released, r.drainedAt = none → r.waiter.target ≤ s.clock.ticks
  /-- The CPU's place on the clock fits its phase (`10_state.md` R31). -/
  cpu : s.cpuFits
  /-- Every bus that a listed `new` gives is a bus the host may send. -/
  givenBus : ∀ n clock r, Move.construct (.other n) clock r ∈ s.agenda → n.Sound
  /-- Every clock that a listed `new` gives is a clock the host may send. -/
  givenClock : ∀ bus n r, Move.construct bus (.other n) r ∈ s.agenda → n.Sound

/-- A run is safe as long as no step of it faults. -/
def State.Safe (s : State) : Prop := ∀ f, step s ≠ .fault f

/-- It is the CPU's turn: its own move is the next one listed, or no move of another agent is. -/
def State.cpuTurn (s : State) : Prop := s.agenda = [] ∨ ∃ rest, s.agenda = .cpu :: rest

/-- The bytes that `fetchPC` answers when it runs `n` times, first to last. -/
def fetchedBytes : Nat → State → List Byte
  | 0, _ => []
  | n + 1, s => (fetchPC s).1 :: fetchedBytes n (fetchPC s).2

/-- The state after `fetchPC` has run `n` times. -/
def afterFetch : Nat → State → State
  | 0, s => s
  | n + 1, s => afterFetch n (fetchPC s).2

/-- The address of a bus transaction; the bus's own reset has none. -/
def BusEvent.address : BusEvent → Option Word
  | .read a _ => some a
  | .write a _ => some a
  | .reset => none
  | .otherRead a _ => some a
  | .otherWrite a _ => some a

/-- A transaction of the CPU's own. -/
def BusEvent.isCpu : BusEvent → Bool
  | .read _ _ => true
  | .write _ _ => true
  | .reset => false
  | .otherRead _ _ => false
  | .otherWrite _ _ => false

/-- An address of the stack page, 0x0100 to 0x01FF (`20_memory.md` R48). -/
def inStackPage (a : Word) : Prop := 0x0100 ≤ a.toNat ∧ a.toNat ≤ 0x01FF

/-- Every flag outside a list has the same value in both status bytes. -/
def FlagsKept (written : List Flag) (before after : Byte) : Prop :=
  ∀ f, f ∉ written → getFlag f after = getFlag f before

/-- Every byte of memory outside a list of addresses reads as before. -/
def MemoryKept (written : List Word) (before after : State) : Prop :=
  ∀ addr, addr ∉ written → after.bus.peek addr = before.bus.peek addr

/-- An address that is bound to RAM holds a byte. -/
def Holds (s : State) (addr : Word) (v : Byte) : Prop := s.bus.isDevice addr = false → s.bus.peek addr = v

/-- The condition of a conditional branch (`45_control_branch.md` R146 to R153); false for every other mnemonic. -/
def branchCondition (m : Mnemonic) (p : Byte) : Bool :=
  match m with
  | .bcc => getFlag .c p == false
  | .bcs => getFlag .c p == true
  | .beq => getFlag .z p == true
  | .bmi => getFlag .n p == true
  | .bne => getFlag .z p == false
  | .bpl => getFlag .n p == false
  | .bvc => getFlag .v p == false
  | .bvs => getFlag .v p == true
  | _ => false

/-- The register that a store writes to memory (R108 to R110) or a comparison compares (R127 to R129). -/
def comparedOrStored (m : Mnemonic) (s : State) : Option Byte :=
  match m with
  | .sta => some s.a
  | .stx => some s.x
  | .sty => some s.y
  | .cmp => some s.a
  | .cpx => some s.x
  | .cpy => some s.y
  | _ => none

/-- The byte a shift or rotate writes and the bit it shifts out, by the number the operand is (`44_incdec_shift.md` R138 to
R141): ASL doubles and LSR halves, ROL and ROR with the old carry entering at the low and at the high end. -/
def shiftSpec (m : Mnemonic) (v : Byte) (carry : Bool) : Option (Byte × Bool) :=
  match m with
  | .asl => some (BitVec.ofNat 8 (2 * v.toNat), v.getLsbD 7)
  | .lsr => some (BitVec.ofNat 8 (v.toNat / 2), v.getLsbD 0)
  | .rol => some (BitVec.ofNat 8 (2 * v.toNat + carry.toNat), v.getLsbD 7)
  | .ror => some (BitVec.ofNat 8 (v.toNat / 2 + 128 * carry.toNat), v.getLsbD 0)
  | _ => none

/-- A packed BCD byte: both digits are 0 to 9 (`00_scope.md` R14). -/
def isBcd (b : Byte) : Prop := b.toNat / 16 ≤ 9 ∧ b.toNat % 16 ≤ 9

/-- The number a packed BCD byte stands for. -/
def bcdValue (b : Byte) : Nat := 10 * (b.toNat / 16) + b.toNat % 16

/-- The cycles an instruction costs beyond its base count (`40_fetch_execute.md` R78): by the penalty column of the opcode
table, the page-cross cycle (R93) or the branch cycles (R145). -/
def penaltyCycles (i : Instr) (s : State) : Nat :=
  match i.row.penalty, operandOf i with
  | .page, some o => if (locate o s).crossed then 1 else 0
  | .branch, some o =>
    if branchCondition i.row.mnemonic s.p then 1 + (if hi (locate o s).addr ≠ hi s.pc then 1 else 0) else 0
  | _, _ => 0

/-- The mnemonics that write each flag (`10_state.md` R26). -/
def flagWriters : Flag → List Mnemonic
  | .c => [.adc, .sbc, .cmp, .cpx, .cpy, .asl, .lsr, .rol, .ror, .clc, .sec, .plp, .rti]
  | .z => [.lda, .ldx, .ldy, .tax, .tay, .txa, .tya, .tsx, .pla, .and, .eor, .ora, .bit, .adc, .sbc, .cmp, .cpx, .cpy,
      .inc, .dec, .inx, .iny, .dex, .dey, .asl, .lsr, .rol, .ror, .plp, .rti]
  | .n => [.lda, .ldx, .ldy, .tax, .tay, .txa, .tya, .tsx, .pla, .and, .eor, .ora, .bit, .adc, .sbc, .cmp, .cpx, .cpy,
      .inc, .dec, .inx, .iny, .dex, .dey, .asl, .lsr, .rol, .ror, .plp, .rti]
  | .v => [.adc, .sbc, .bit, .clv, .plp, .rti]
  | .d => [.cld, .sed, .plp, .rti]
  | .i => [.cli, .sei, .brk, .plp, .rti]
  | .b => [.plp, .rti]
  | .u => [.plp, .rti]

/-- The mnemonics that can change A (`10_state.md` R21). -/
def aWriters : List Mnemonic := [.lda, .txa, .tya, .pla, .and, .eor, .ora, .adc, .sbc, .asl, .lsr, .rol, .ror]

/-- The mnemonics that write X: "X is written by LDX, TAX, TSX, INX, DEX" (`10_state.md` R22). -/
def xWriters : List Mnemonic := [.ldx, .tax, .tsx, .inx, .dex]

/-- The mnemonics that write Y: "Y by LDY, TAY, INY, DEY" (`10_state.md` R22). -/
def yWriters : List Mnemonic := [.ldy, .tay, .iny, .dey]

/-- The mnemonics that write SP: "written by TXS and by every push and pull" (`10_state.md` R23). -/
def spWriters : List Mnemonic := [.txs, .pha, .php, .pla, .plp, .jsr, .rts, .brk, .rti]

/-- The mnemonics that set PC to anything but the next instruction's address (`45_control_branch.md`, R162, R163). -/
def pcWriters : List Mnemonic := [.jmp, .jsr, .rts, .bcc, .bcs, .beq, .bmi, .bne, .bpl, .bvc, .bvs, .brk, .rti]

/-- The mnemonics that store to memory. -/
def memoryWriters : List Mnemonic :=
  [.sta, .stx, .sty, .inc, .dec, .asl, .lsr, .rol, .ror, .pha, .php, .jsr, .brk]

end Sys2Proof.Machine
end

