-- ==== Sys2Proof/Certificates/Slice0/Obligations.lean ====
section
/-! DEFINITION. The statements for the provers, from the numbered rules of the spec. `exec i s` runs an instruction at the
post-operand PC (log 17); `bus.peek a` is the byte that memory holds at `a`. -/

open Sys2Proof Sys2Proof.Machine

/-! ## Encoding -/

/-- R60 to R64: the encoder's bytes, whatever follows them, decode to the instruction they were made from, every operand
kept. -/
def Obligations.DecodeOfEncodeIsIdentity : Prop :=
  ∀ (i : Instr) (rest : List Byte), decode (encode i ++ rest) = .ok (i, rest)

/-- R61, R66, R67: the bytes that decode to one instruction and nothing more are exactly the well-formed ones, and
encoding what they decode to gives them back. -/
def Obligations.EncodeOfDecodeIsIdentity : Prop :=
  (∀ bs : List Byte, wellFormedBytes bs = true → ∃ i, decode bs = .ok (i, []) ∧ encode i = bs) ∧
  (∀ (bs : List Byte) (i : Instr), decode bs = .ok (i, []) → wellFormedBytes bs = true ∧ encode i = bs)

/-- R66: the 105 listed opcode values, and no others, are unmapped. -/
def Obligations.UnmappedOpcodesAreTheListed105 : Prop :=
  unmappedOpcodes.length = 105 ∧ unmappedOpcodes.Nodup ∧
  ∀ op : Byte, (decodeOpcode op).isNone = true ↔ op.toNat ∈ unmappedOpcodes

/-- R64: words of every family written out from the opcode table, and the instructions they stand for. -/
def Obligations.SampleWordsDecode : Prop :=
  decode [0xA9#8, 0x7F#8] = .ok (.ldaImmediate 0x7F#8, []) ∧
  decode [0x91#8, 0xF0#8] = .ok (.staIndirectIndexedY 0xF0#8, []) ∧
  decode [0x96#8, 0xF8#8] = .ok (.stxZeropageY 0xF8#8, []) ∧
  decode [0xBA#8] = .ok (.tsx, []) ∧
  decode [0x28#8] = .ok (.plp, []) ∧
  decode [0x7D#8, 0x34#8, 0x12#8] = .ok (.adcAbsoluteX 0x1234#16, []) ∧
  decode [0xE1#8, 0x20#8] = .ok (.sbcIndexedIndirectX 0x20#8, []) ∧
  decode [0x2C#8, 0x00#8, 0xC0#8] = .ok (.bitAbsolute 0xC000#16, []) ∧
  decode [0xDE#8, 0xFF#8, 0x0F#8] = .ok (.decAbsoluteX 0x0FFF#16, []) ∧
  decode [0x6A#8] = .ok (.rorAccumulator, []) ∧
  decode [0x6C#8, 0xFF#8, 0x02#8] = .ok (.jmpIndirect 0x02FF#16, []) ∧
  decode [0xD0#8, 0xFA#8] = .ok (.bne 0xFA#8, []) ∧
  decode [0xB8#8] = .ok (.clv, []) ∧
  decode [0x00#8] = .ok (.brk, []) ∧
  decode [0x89#8, 0x00#8] = .error (.badOpcode 0x89#8)

/-! ## Reset and the host's calls -/

/-- R34: the registers and the phase after reset; PC is the word at the reset vector of the memory, which in the empty
memory of `State.reset` (the model's choice, logs 1 and 6) is 0x0000. -/
def Obligations.ResetStateRegisters : Prop :=
  State.reset.a = 0x00#8 ∧ State.reset.x = 0x00#8 ∧ State.reset.y = 0x00#8 ∧ State.reset.sp = 0xFD#8 ∧
  State.reset.p = 0x04#8 ∧ State.reset.phase = .ready ∧
  State.reset.pc = w16 (State.reset.bus.peek 0xFFFC#16) (State.reset.bus.peek 0xFFFD#16) ∧
  (∀ f, getFlag f State.reset.p = decide (f = .i))

/-- R191: what the host's `reset()` does, outside the barrier and under the launch premise of R192: the bus's own reset, the
registers, the two vector reads from the post-reset bus, the phase; the clock and everything else is left alone. The order of
its steps is the spec's decision D17; of a vector byte outside RAM the premise holds (log 5). R193: the bus's own reset leaves
the memory that the parameter `busReset` says; that this is what was there or one image, and that the binding stays, is the
model's form (log 4). -/
def Obligations.HostResetLoadsRegistersAndVector : Prop :=
  ∀ (s : State) (rest : List Move), s.agenda = .reset :: rest → s.phase.inBarrier = false → s.bus.keepsVector = true →
    let b0 := s.bus.afterBusReset
    let b1 := b0.afterRead 0xFFFC#16
    (s.bus.onReset = .keep → b0.mem = s.bus.mem) ∧ (∀ m, s.bus.onReset = .image m → b0.mem = m) ∧
    b0 = { s.bus with mem := b0.mem, history := .reset :: s.bus.history } ∧
    step s = .next
      { a := 0x00#8, x := 0x00#8, y := 0x00#8, sp := 0xFD#8, p := 0x04#8,
        pc := w16 (b0.value 0xFFFC#16) (b1.value 0xFFFD#16), phase := .ready, lastReturn := s.lastReturn,
        bus := b1.afterRead 0xFFFD#16, clock := s.clock, cpuClock := s.cpuClock, agenda := rest }

/-- R190, R187: `new(memory, clock)` zeroes every register and leaves the phase Ready, with no bus access and no clock call; the
CPU has the bus, the master clock and the reference to it that the host sends, those it had or others. That the event
history and the record of returned counts go on is the model's form (log 27). -/
def Obligations.ConstructionZeroesRegisters : Prop :=
  ∀ (s : State) (rest : List Move) (b : GivenBus) (c : GivenClock) (r : ClockRef), s.agenda = .construct b c r :: rest →
    s.phase.inBarrier = false → r.valid = true →
    ∃ t, step s = .next t ∧
      t = { a := 0x00#8, x := 0x00#8, y := 0x00#8, sp := 0x00#8, p := 0x00#8, pc := 0x0000#16, phase := .ready,
            lastReturn := t.lastReturn, bus := t.bus, clock := t.clock, cpuClock := r, agenda := rest } ∧
      (b = .same → t.bus = s.bus) ∧
      (∀ n, b = .other n → t.bus = { n with history := s.bus.history, draws := s.bus.draws }) ∧
      (c = .same → t.clock = s.clock) ∧
      (∀ n, c = .other n → t.clock = { n with returns := s.clock.returns, draws := s.clock.draws })

/-- R194: a reset while the CPU waits in its barrier has no move in the model, and neither has a construction (the model's
choice for `new`, log 15); R192: nor has a reset whose bus reset changes the vector (of a vector byte outside RAM the
premise holds, log 5); R180: nor has a construction with a divider of divisor 0 (log 20). -/
def Obligations.HostCallsOutsideContractAreRefused : Prop :=
  (∀ (s : State) (rest : List Move) (start c : Nat), s.phase = .waiting start c →
    (s.agenda = .reset :: rest ∨ ∃ b k r, s.agenda = .construct b k r :: rest) →
    step s = .refused .hostCallInBarrier) ∧
  (∀ (s : State) (rest : List Move), s.agenda = .reset :: rest → s.phase.inBarrier = false →
    s.bus.keepsVector = false → step s = .refused .resetVectorChanged) ∧
  (∀ (s : State) (rest : List Move) (b : GivenBus) (k : GivenClock), s.agenda = .construct b k (.divider 0) :: rest →
    s.phase.inBarrier = false → step s = .refused .zeroDivisor)

/-! ## The error, and the step -/

/-- R75, R165, R166: an unmapped opcode halts the CPU, whether its step is a listed move or the default schedule's: PC past the
opcode byte, nothing else of the registers or of memory changed, one bus read, no await, `execute` returning
(0, BadOpcode(op)); the CPU's next step is the error itself. The state is the spec's decision D16; the error at the step
after is the model's form (log 14). -/
def Obligations.UnmappedOpcodeHaltsTheCpu : Prop :=
  ∀ s : State, s.phase = .ready → s.cpuTurn → (decodeOpcode (s.bus.value s.pc)).isNone = true →
    let op := s.bus.value s.pc
    ∃ t, step s = .next t ∧
      t = { s with pc := s.pc + 1#16, phase := .halted op, lastReturn := some { cycles := 0#16, error := some op },
                   bus := s.bus.afterRead s.pc, agenda := s.agenda.tail } ∧
      t.bus.history = .read s.pc op :: s.bus.history ∧
      MemoryKept [] s t ∧
      (t.cpuTurn → step t = .fault (.badOpcode op))

/-- R166: a halted CPU leaves its phase only by the host's `reset()` or a new construction (the spec's decision D16). -/
def Obligations.HaltedLeftOnlyByResetOrConstruction : Prop :=
  ∀ (s t : State) (op : Byte), s.phase = .halted op → step s = .next t → t.phase ≠ .halted op →
    ∃ rest, s.agenda = .reset :: rest ∨ ∃ b c r, s.agenda = .construct b c r :: rest

/-- R167: the only error is the one of a halted CPU whose turn it is; no instruction and no other move faults, and a step is
refused exactly for a host's call outside its contract, a `reset` or `new` in the barrier (R194) or a `reset` whose bus reset
changes the vector (R192), or a divider that is none (R180). The fault at the step after is the model's form (log 14), the
refusals are logs 5, 15 and 20. -/
def Obligations.StepFaultsExactlyWhenHalted : Prop :=
  (∀ (s : State) (f : Fault), step s = .fault f ↔ ∃ op, f = .badOpcode op ∧ s.phase = .halted op ∧ s.cpuTurn) ∧
  (∀ s : State, (∃ r, step s = .refused r) ↔
    ∃ rest, (s.agenda = .reset :: rest ∧ (s.phase.inBarrier = true ∨ s.bus.keepsVector = false)) ∨
      (∃ b c k, s.agenda = .construct b c k :: rest ∧ (s.phase.inBarrier = true ∨ k = .divider 0)) ∨
      ∃ id target, s.agenda = .await id (.divider 0) target :: rest)

/-- R75, R60, R42: in the CPU's turn, listed or by the default schedule, the step fetches the opcode and the operand bytes, one
read each with PC moving past them, and is `exec` of the instruction they decode to, there; a fetched byte is what memory
holds if its address is bound to RAM, else a free value. So when the instruction's own bytes at PC lie in RAM, the step is
`exec` of what they decode to, whatever the addresses after it are bound to. That the operand bytes are fetched before the
meaning is called is the model's reading (log 17), that addresses outside RAM read as free values its form (log 2). -/
def Obligations.StepRunsDecodedInstruction : Prop :=
  (∀ (s : State) (i : Instr) (n : Nat), s.phase = .ready → s.cpuTurn →
    let s0 := s.setAgenda s.agenda.tail
    decode (fetchedBytes n s0) = .ok (i, []) →
    i.wellFormed = true ∧ n = i.length ∧
    step s = exec i (afterFetch n s0) ∧
    afterFetch n s0 = { s0 with pc := s.pc + BitVec.ofNat 16 n, bus := (afterFetch n s0).bus } ∧
    (afterFetch n s0).bus.history =
      (List.range n).reverse.map
        (fun k => BusEvent.read (s.pc + BitVec.ofNat 16 k) ((fetchedBytes n s0).getD k 0x00#8)) ++ s.bus.history ∧
    (afterFetch n s0).bus.devices = s.bus.devices ∧ (afterFetch n s0).bus.onReset = s.bus.onReset ∧
    (∀ k < n, s.bus.isDevice (s.pc + BitVec.ofNat 16 k) = false →
      (fetchedBytes n s0)[k]? = some (s.bus.peek (s.pc + BitVec.ofNat 16 k))) ∧
    MemoryKept [] s (afterFetch n s0)) ∧
  (∀ (s : State) (i : Instr) (rest : List Byte), s.phase = .ready → s.cpuTurn →
    (∀ k < i.length, s.bus.isDevice (s.pc + BitVec.ofNat 16 k) = false) →
    decode [s.bus.peek s.pc, s.bus.peek (s.pc + 1#16), s.bus.peek (s.pc + 2#16)] = .ok (i, rest) →
    let s0 := s.setAgenda s.agenda.tail
    fetchedBytes i.length s0 = encode i ∧ step s = exec i (afterFetch i.length s0))

/-- R57, R198: a store to an address bound to RAM is seen by the next fetch of that address (the spec's decision D7). -/
def Obligations.StoreIsSeenByNextFetch : Prop :=
  ∀ (s : State) (addr : Word) (v : Byte), s.bus.isDevice addr = false →
    (fetchPC ((busWrite addr v s).setPC addr)).1 = v

/-! ## Whole-machine rules over all instructions -/

/-- R78, R93, R145: every instruction completes, and costs its base count of the opcode table plus its penalty, at least 2
and at most 7; the barrier starts at the count of the CPU's clock. The penalty of each form is the spec's decision D8, most
base counts are its rows G1. -/
def Obligations.EveryInstructionCostsItsTableCycles : Prop :=
  ∀ (i : Instr) (s : State), ∃ t, exec i s = .next t ∧
    t.phase = .waiting s.cpuTicks (i.row.cycles + penaltyCycles i s) ∧
    2 ≤ i.row.cycles + penaltyCycles i s ∧ i.row.cycles + penaltyCycles i s ≤ 7

/-- R19, R42, R75: an instruction leaves the clock, what `execute` last returned, the other agents' moves and the bus's
binding alone, and the bus sees nothing of it but reads and writes, added to the event history. -/
def Obligations.InstructionLeavesOtherAgentsAlone : Prop :=
  ∀ (i : Instr) (s t : State), exec i s = .next t →
    t.clock = s.clock ∧ t.cpuClock = s.cpuClock ∧ t.agenda = s.agenda ∧ t.lastReturn = s.lastReturn ∧
    t.bus.devices = s.bus.devices ∧ t.bus.onReset = s.bus.onReset ∧
    ∃ evs, t.bus.history = evs ++ s.bus.history ∧ ∀ e ∈ evs, e.isCpu = true

/-- R26: "No instruction not listed in a row writes that flag." R26 is derived by the spec. -/
def Obligations.FlagsWrittenOnlyByListedInstructions : Prop :=
  ∀ (i : Instr) (s t : State) (f : Flag), exec i s = .next t → i.row.mnemonic ∉ flagWriters f →
    getFlag f t.p = getFlag f s.p

/-- R21, R22, R23, R28: each register is written only by the instructions the spec names for it. -/
def Obligations.RegistersWrittenOnlyByListedInstructions : Prop :=
  ∀ (i : Instr) (s t : State), exec i s = .next t →
    (i.row.mnemonic ∉ aWriters → t.a = s.a) ∧ (i.row.mnemonic ∉ xWriters → t.x = s.x) ∧
    (i.row.mnemonic ∉ yWriters → t.y = s.y) ∧ (i.row.mnemonic ∉ spWriters → t.sp = s.sp) ∧
    (i.row.mnemonic ∉ pcWriters → t.pc = s.pc)

/-- R47: an instruction that is neither a store, a read-modify-write of memory nor a push leaves every byte of memory as it
was. -/
def Obligations.MemoryWrittenOnlyByStoringInstructions : Prop :=
  ∀ (i : Instr) (s t : State), exec i s = .next t →
    (i.row.mnemonic ∉ memoryWriters ∨ i.row.mode = .accumulator) → MemoryKept [] s t

/-- R54: "Every stack access is to an address in 0x0100–0x01FF." The stack instructions touch no other address on the bus;
BRK besides reads its vector, after its three pushes. The accesses of each instruction are the spec's decision D3. -/
def Obligations.StackAccessesStayInTheStackPage : Prop :=
  (∀ (i : Instr) (s t : State), exec i s = .next t →
    i.row.mnemonic ∈ [Mnemonic.pha, .php, .pla, .plp, .jsr, .rts, .rti] →
    ∃ evs, t.bus.history = evs ++ s.bus.history ∧ evs ≠ [] ∧ ∀ e ∈ evs, ∃ a, e.address = some a ∧ inStackPage a) ∧
  (∀ s t : State, exec .brk s = .next t →
    ∃ l h evs, t.bus.history = .read 0xFFFF#16 h :: .read 0xFFFE#16 l :: (evs ++ s.bus.history) ∧
      evs.length = 3 ∧ ∀ e ∈ evs, ∃ a, e.address = some a ∧ inStackPage a)

/-- R32, R41, R179, R180, R31: memory in canonical form, registered targets ahead of the count, released ones reached, the CPU's
place on the clock fitting its phase, and what a listed `new` gives being a bus and a clock: every step of every agent keeps
it. -/
def Obligations.EveryStepKeepsTheInvariant : Prop :=
  ∀ s t : State, s.Inv → step s = .next t → t.Inv

/-- The invariant holds right after reset, in the empty memory and on the new clock behind the default divider that the model
chooses there (logs 6, 8 and 9). -/
def Obligations.ResetMeetsTheInvariant : Prop := State.reset.Inv

/-- R42: the event history only grows, whoever moves; that a `new` on another bus goes on with it is the model's form
(log 27). -/
def Obligations.EventHistoryOnlyGrows : Prop :=
  ∀ s t : State, step s = .next t → ∃ evs, t.bus.history = evs ++ s.bus.history

/-! ## The clock and the barrier -/

/-- R32: the tick counter "is monotonically non-decreasing and only advances while the clock is running", in every step but a
`new` that gives the CPU another clock, with a counter of its own. -/
def Obligations.TicksNeverDecreaseAndAdvanceOnlyWhileRunning : Prop :=
  ∀ s t : State, (∀ b n r rest, s.agenda ≠ .construct b (.other n) r :: rest) → step s = .next t →
    s.clock.ticks ≤ t.clock.ticks ∧ (s.clock.running = false → t.clock.ticks = s.clock.ticks)

/-- R76, R182: on a running clock the barrier of an instruction that started at `start` and cost `c` ends with the master at
(start + c) on the CPU's clock, or where it was if that had passed; `execute` returns (c, none) and nothing else of the CPU
or the bus changes; the other callers' waiters that the count has reached are released, the others stay. A CPU already
released resumes where the clock stands: at (start + c) or past it, unless a draining stop released it before the clock was
started again, and then where the clock stands, possibly short of it (R183; log 19). That the producer's steps up to the
target and the CPU's own steps are one step of the model is its default schedule (log 12). -/
def Obligations.BarrierEndsAtItsTarget : Prop :=
  ∀ (s : State) (start c : Nat), s.Inv → s.agenda = [] → s.phase = .waiting start c → s.clock.running = true →
    ∃ t, step s = .next t ∧
      t = { s with phase := .ready, lastReturn := some { cycles := BitVec.ofNat 16 c, error := none }, clock :=
        { s.clock with ticks := t.clock.ticks, waiters := t.clock.waiters, released := t.clock.released } } ∧
      (∀ w, w.caller ≠ .cpu → (w ∈ t.clock.waiters ↔ w ∈ s.clock.waiters ∧ t.clock.ticks < w.target)) ∧
      (∀ r, r.waiter.caller ≠ .cpu → (r ∈ t.clock.released ↔ r ∈ s.clock.released ∨
        (r.drainedAt = none ∧ r.waiter ∈ s.clock.waiters ∧ r.waiter.target ≤ t.clock.ticks))) ∧
      (s.clock.hasReleased .cpu = false → t.clock.ticks = max s.clock.ticks (s.cpuClock.toMaster (start + c))) ∧
      (s.clock.hasReleased .cpu = true → t.clock.ticks = s.clock.ticks) ∧
      ((∀ r ∈ s.clock.released, r.waiter.caller = .cpu → r.drainedAt = none) → start + c ≤ t.cpuTicks)

/-- R182: with a divider d and start = m0 div d, "the instruction's barrier lasts (start + c) * d − m0 master ticks, between
c*d − (d − 1) and c*d". The spec derives it from R180. -/
def Obligations.BarrierLastsItsCyclesOnADivider : Prop :=
  ∀ d m0 c : Nat, 1 ≤ d → 1 ≤ c →
    let target := (ClockRef.divider d).toMaster ((ClockRef.divider d).scale m0 + c)
    m0 < target ∧ target = (m0 / d + c) * d ∧ c * d - (d - 1) ≤ target - m0 ∧ target - m0 ≤ c * d

/-- R76: the CPU's own step in its barrier, unless a draining stop has released it: once its clock shows at least start + c,
the phase becomes Ready, `execute` returns (c, none) and nothing else changes but the CPU's place on the clock; until then
the CPU stays blocked and makes no bus access. That it registers then is R178's; that its listed move, not enabled before the
target, is a step that leaves the CPU blocked is the model's form (logs 13 and 21). -/
def Obligations.BarrierStepWaitsForItsTarget : Prop :=
  ∀ (s : State) (start c : Nat) (rest : List Move), s.Inv → s.phase = .waiting start c → s.agenda = .cpu :: rest →
    (∀ r ∈ s.clock.released, r.waiter.caller = .cpu → r.drainedAt = none) →
    (start + c ≤ s.cpuTicks → ∃ t, step s = .next t ∧
      t = { s with agenda := rest, phase := .ready, clock := { s.clock with released := t.clock.released },
                   lastReturn := some { cycles := BitVec.ofNat 16 c, error := none } } ∧
      Clock.OthersKept .cpu s.clock t.clock ∧ t.clock.cpuEntries = 0) ∧
    (s.cpuTicks < start + c → ∃ t, step s = .next t ∧
      t = { s with agenda := rest, clock := { s.clock with waiters := t.clock.waiters } } ∧
      t.clock.waiters = s.clock.waiters ++ if s.clock.hasWaiting .cpu then [] else [s.cpuWaiter start c])

/-- R187: on a stopped clock a CPU whose target lies ahead blocks for good, "a hang, not an error": the next step leaves it
waiting and registers it unless it is registered, and every later step leaves everything as it is. That the block is a step
that changes nothing is the model's form (log 13). -/
def Obligations.StoppedClockBlocksTheCpu : Prop :=
  ∀ (s : State) (start c : Nat), s.agenda = [] → s.phase = .waiting start c → s.clock.running = false →
    s.clock.hasReleased .cpu = false → s.clock.ticks < s.cpuClock.toMaster (start + c) →
    ∃ t, step s = .next t ∧ t = { s with clock := { s.clock with waiters := t.clock.waiters } } ∧
      (t.clock.waiters = s.clock.waiters ++ if s.clock.hasWaiting .cpu then [] else [s.cpuWaiter start c]) ∧
      step t = .next t

/-- R176, R177: `start` sets the clock running and returns the count, on a running clock too; `stop` pauses it and keeps the
count, and on a stopped clock is a no-op, which under the policy `drain` with waiters registered is the model's reading
(log 18). What a stop of a running clock does with the waiters is said apart. The returned count stands in a field of the
model's own (log 24), and is the master's (log 26). -/
def Obligations.StartAndStopActAsTheSpecSays : Prop :=
  (∀ (s : State) (rest : List Move), s.agenda = .start :: rest →
    step s = .next { s with agenda := rest, clock :=
      { s.clock with running := true, returns := .start s.clock.ticks :: s.clock.returns } }) ∧
  (∀ (s : State) (rest : List Move), s.agenda = .stop :: rest → s.clock.running = false →
    step s = .next { s with agenda := rest }) ∧
  (∀ (s : State) (rest : List Move), s.agenda = .stop :: rest →
    ∃ t, step s = .next t ∧
      t = { s with agenda := rest, clock :=
        { s.clock with running := false, waiters := t.clock.waiters, released := t.clock.released } })

/-- R179: the producer's step, enabled only while the clock runs, adds one to the count and releases exactly the waiters whose
target equals the new count; that a listed tick of a stopped clock is a step that changes nothing but the list is the model's
form (log 21). R183 (the spec's decision D21): a stop of a running clock leaves the waiters registered or releases all of
them with the current count, as the parameter `clockStopPolicy` says; a CPU that it released leaves its barrier at its own
next step, every other caller's entry kept (log 19). -/
def Obligations.TicksAndStopsReleaseWaiters : Prop :=
  (∀ (s : State) (rest : List Move), s.agenda = .tick :: rest → s.clock.running = false →
    step s = .next { s with agenda := rest }) ∧
  (∀ (s : State) (rest : List Move), s.agenda = .tick :: rest → s.clock.running = true →
    ∃ t, step s = .next t ∧
      t = { s with agenda := rest, clock := { s.clock with
        ticks := s.clock.ticks + 1, waiters := t.clock.waiters, released := t.clock.released } } ∧
      (∀ w, w ∈ t.clock.waiters ↔ w ∈ s.clock.waiters ∧ w.target ≠ s.clock.ticks + 1) ∧
      (∀ r, r ∈ t.clock.released ↔ r ∈ s.clock.released ∨
        (r.drainedAt = none ∧ r.waiter ∈ s.clock.waiters ∧ r.waiter.target = s.clock.ticks + 1))) ∧
  (∀ (s : State) (rest : List Move), s.agenda = .stop :: rest → s.clock.policy = .block →
    step s = .next { s with agenda := rest, clock := { s.clock with running := false } }) ∧
  (∀ (s : State) (rest : List Move), s.agenda = .stop :: rest → s.clock.policy = .drain → s.clock.running = true →
    ∃ t, step s = .next t ∧
      t = { s with agenda := rest, clock := { s.clock with running := false, waiters := [], released := t.clock.released } } ∧
      (∀ r, r ∈ t.clock.released ↔ r ∈ s.clock.released ∨
        (r.drainedAt = some s.clock.ticks ∧ r.waiter ∈ s.clock.waiters)) ∧
      t.clock.released.length = s.clock.released.length + s.clock.waiters.length) ∧
  (∀ (s : State) (start c : Nat) (rest : List Move), s.phase = .waiting start c → s.agenda = .cpu :: rest →
    (∃ r ∈ s.clock.released, r.waiter.caller = .cpu ∧ r.drainedAt ≠ none) →
    ∃ t, step s = .next t ∧
      t = { s with agenda := rest, phase := .ready, clock := { s.clock with released := t.clock.released },
                   lastReturn := some { cycles := BitVec.ofNat 16 c, error := none } } ∧
      Clock.OthersKept .cpu s.clock t.clock ∧ t.clock.released.length + 1 = s.clock.released.length)

/-- R178, R180: another consumer's `await(target)`: if its target has passed it returns at once, on the master a count
between the target and the current one, on a divider d the quotient of the current one; otherwise it registers at the master
target (t*d on a divider) and blocks. Released at its target, it returns such a count when it resumes; not released, it does
not resume. Released by a draining stop (R183), it returns on the master the count at the stop and on a divider the quotient
of the count where it resumes: that is the model's reading (log 19). Nothing else of the clock changes, and no other caller's
entry. The value on the master is the spec's decision D22, its form the model's (logs 11, 16 and 21). -/
def Obligations.AwaitReturnsOrRegisters : Prop :=
  (∀ (s : State) (rest : List Move) (id target : Nat) (r : ClockRef), s.agenda = .await id r target :: rest →
    r.valid = true →
    ∃ t, step s = .next t ∧
      (s.clock.ticks < r.toMaster target →
        t = { s with agenda := rest, clock := { s.clock with
          waiters := s.clock.waiters ++ [{ caller := .consumer id, clock := r, target := r.toMaster target }] } }) ∧
      (r.toMaster target ≤ s.clock.ticks → ∃ v,
        t = { s with agenda := rest, clock := { s.clock with
          returns := .await id v :: s.clock.returns, draws := t.clock.draws } } ∧
        (r = .master → target ≤ v ∧ v ≤ s.clock.ticks) ∧
        (∀ d, r = .divider d → v = s.clock.ticks / d ∧ target ≤ v))) ∧
  (∀ (s : State) (rest : List Move) (id : Nat), s.Inv → s.agenda = .resume id :: rest →
    ∃ t, step s = .next t ∧
      (s.clock.hasReleased (.consumer id) = false → t = { s with agenda := rest }) ∧
      (s.clock.hasReleased (.consumer id) = true →
        ∃ r v, r ∈ s.clock.released ∧ r.waiter.caller = .consumer id ∧
          t = { s with agenda := rest, clock := { s.clock with
            released := t.clock.released, returns := .await id v :: s.clock.returns, draws := t.clock.draws } } ∧
          Clock.OthersKept (.consumer id) s.clock t.clock ∧
          t.clock.released.length + 1 = s.clock.released.length ∧ (∀ q ∈ t.clock.released, q ∈ s.clock.released) ∧
          (∀ n, r.waiter.clock = .master → r.drainedAt = some n → v = n) ∧
          (r.waiter.clock = .master → r.drainedAt = none → r.waiter.target ≤ v ∧ v ≤ s.clock.ticks) ∧
          (∀ d, r.waiter.clock = .divider d → v = s.clock.ticks / d)))

/-- R55: another agent's bus access changes at most the byte it writes, and no register, phase, clock or binding of an
address; a written byte that is bound to RAM takes the value, a write outside RAM changes no memory (the model's form, log 3),
and a read outside RAM draws a free value (log 2). The rule is the spec's decision D25, the recording the model's (log 25). -/
def Obligations.OtherAgentsAccessOnlyTheBus : Prop :=
  (∀ (s : State) (rest : List Move) (addr : Word) (v : Byte), s.agenda = .otherWrite addr v :: rest →
    ∃ t, step s = .next t ∧
      t = { s with agenda := rest, bus := { s.bus with mem := t.bus.mem, history := .otherWrite addr v :: s.bus.history } } ∧
      (s.bus.isDevice addr = false → t.bus.peek addr = v) ∧ (s.bus.isDevice addr = true → t.bus.mem = s.bus.mem) ∧
      MemoryKept [addr] s t) ∧
  (∀ (s : State) (rest : List Move) (addr : Word), s.agenda = .otherRead addr :: rest →
    ∃ t, step s = .next t ∧
      t = { s with agenda := rest, bus := { s.bus with
        history := .otherRead addr (s.bus.value addr) :: s.bus.history, draws := t.bus.draws } } ∧
      t.bus.draws = s.bus.draws + (if s.bus.isDevice addr then 1 else 0) ∧
      (s.bus.isDevice addr = false → s.bus.value addr = s.bus.peek addr))

/-! ## Flag logic -/

/-- R95: Z is set iff the value is 0, N is bit 7 of the value; no other flag changes. -/
def Obligations.SetZNSetsZeroAndNegative : Prop :=
  ∀ v p : Byte, getFlag .z (setZN v p) = (v == 0#8) ∧ getFlag .n (setZN v p) = v.getLsbD 7 ∧
    FlagsKept [.z, .n] p (setZN v p)

/-- R96, R97, R131: binary addition: the sum modulo 256, the carry iff it exceeds 0xFF; V iff the operands share a sign and the
result has the opposite one, which is to say that the signed sum does not fit in 8 bits. -/
def Obligations.BinaryAdditionAndItsOverflow : Prop :=
  ∀ (a b : Byte) (c : Bool),
    (addBin a b c).1.toNat = (a.toNat + b.toNat + c.toNat) % 256 ∧
    ((addBin a b c).2 = true ↔ 0xFF < a.toNat + b.toNat + c.toNat) ∧
    (∀ r : Byte, vAdd a b r = true ↔ a.getLsbD 7 = b.getLsbD 7 ∧ r.getLsbD 7 ≠ a.getLsbD 7) ∧
    (vAdd a b (addBin a b c).1 = true ↔
      a.toInt + b.toInt + (c.toNat : Int) < -128 ∨ 127 < a.toInt + b.toInt + (c.toNat : Int))

/-- R98, R99, R131: binary subtraction: the difference modulo 256, "not borrow"; V iff the
operands have opposite signs and the result's sign differs from the first one's, which is to say that the signed
difference does not fit in 8 bits. -/
def Obligations.BinarySubtractionAndItsOverflow : Prop :=
  ∀ (a b : Byte) (c : Bool),
    ((subBin a b c).1.toNat : Int) = ((a.toNat : Int) - b.toNat - (1 - (c.toNat : Int))) % 256 ∧
    ((subBin a b c).2 = true ↔ 0 ≤ (a.toNat : Int) - b.toNat - (1 - (c.toNat : Int))) ∧
    (∀ r : Byte, vSub a b r = true ↔ a.getLsbD 7 ≠ b.getLsbD 7 ∧ r.getLsbD 7 ≠ a.getLsbD 7) ∧
    (vSub a b (subBin a b c).1 = true ↔
      a.toInt - b.toInt - (1 - (c.toNat : Int)) < -128 ∨ 127 < a.toInt - b.toInt - (1 - (c.toNat : Int)))

/-- R101: BCD addition on every pair of bytes, their digits added as numbers: the low digits and the carry, ten taken off from 10
on; the high digits and the carry out of the low ones, 0xA0 taken off from 0xA0 on, which is when the carry is set;
each digit cut to four bits (for digits above 9, the spec's decision D14). For packed BCD operands the result is the packed
BCD sum modulo 100, and the carry is set iff the decimal sum is at least 100, which the spec derives. -/
def Obligations.BcdAdditionOfValidDigits : Prop :=
  (∀ (a b : Byte) (c : Bool),
    let low := a.toNat % 16 + b.toNat % 16 + c.toNat
    let high := 16 * (a.toNat / 16) + 16 * (b.toNat / 16) + (if 10 ≤ low then 16 else 0)
    (addBcd a b c).1.toNat =
      16 * ((if 0xA0 ≤ high then high - 0xA0 else high) / 16 % 16) + (if 10 ≤ low then low - 10 else low) % 16 ∧
    ((addBcd a b c).2 = true ↔ 0xA0 ≤ high)) ∧
  ∀ (a b : Byte) (c : Bool), isBcd a → isBcd b →
    isBcd (addBcd a b c).1 ∧ bcdValue (addBcd a b c).1 = (bcdValue a + bcdValue b + c.toNat) % 100 ∧
    ((addBcd a b c).2 = true ↔ 100 ≤ bcdValue a + bcdValue b + c.toNat)

/-- R102: BCD subtraction is BCD addition of the 99's complement; for packed BCD operands the result is the packed BCD
difference modulo 100, and the carry is set iff there is no borrow. The complement is the spec's decision D13, the decimal
reading is derived by it. -/
def Obligations.BcdSubtractionOfValidDigits : Prop :=
  (∀ (a b : Byte) (c : Bool), subBcd a b c = addBcd a (BitVec.ofInt 8 (0x99 - (b.toNat : Int))) c) ∧
  ∀ (a b : Byte) (c : Bool), isBcd a → isBcd b →
    let d : Int := (bcdValue a : Int) - bcdValue b - (1 - (c.toNat : Int))
    isBcd (subBcd a b c).1 ∧ (bcdValue (subBcd a b c).1 : Int) = d % 100 ∧ ((subBcd a b c).2 = true ↔ 0 ≤ d)

/-- R98, R130 (both the spec's own inferences): subtracting is adding the complement; subtracting what was added, with the
carry-in inverted, gives A back, whatever the carry out was. -/
def Obligations.BinaryAddThenSubtractRoundTrip : Prop :=
  ∀ (a m : Byte) (c : Bool),
    subBin a m c = addBin a (m ^^^ 0xFF#8) c ∧ (subBin (addBin a m c).1 m (!c)).1 = a

/-! ## Addressing modes -/

/-- R81, R82, R83, R88, R89: the zero-page modes wrap within the zero page, and so do the two bytes of a zero-page pointer,
read low byte first; the (indirect),Y address wraps modulo 65536 and crosses a page iff the high byte changes. The order of
the two reads is the spec's decision D4. -/
def Obligations.ZeroPageModesWrapWithinThePage : Prop :=
  ∀ (z : Byte) (s : State),
    (locate (.zeropage z) s).addr.toNat = z.toNat ∧ (locate (.zeropage z) s).state = s ∧
    (locate (.zeropageX z) s).addr.toNat = (z.toNat + s.x.toNat) % 256 ∧ (locate (.zeropageX z) s).state = s ∧
    (locate (.zeropageY z) s).addr.toNat = (z.toNat + s.y.toNat) % 256 ∧ (locate (.zeropageY z) s).state = s ∧
    (∀ l h : Word, l.toNat = (z.toNat + s.x.toNat) % 256 → h.toNat = (z.toNat + s.x.toNat + 1) % 256 →
      (locate (.indexedIndirectX z) s).addr.toNat =
        (s.bus.value l).toNat + 256 * ((s.bus.afterRead l).value h).toNat ∧
      (locate (.indexedIndirectX z) s).crossed = false ∧
      (locate (.indexedIndirectX z) s).state = { s with bus := (s.bus.afterRead l).afterRead h }) ∧
    (∀ l h : Word, l.toNat = z.toNat → h.toNat = (z.toNat + 1) % 256 →
      let base := (s.bus.value l).toNat + 256 * ((s.bus.afterRead l).value h).toNat
      (locate (.indirectIndexedY z) s).addr.toNat = (base + s.y.toNat) % 65536 ∧
      ((locate (.indirectIndexedY z) s).crossed = true ↔ base / 256 ≠ (base + s.y.toNat) % 65536 / 256) ∧
      (locate (.indirectIndexedY z) s).state = { s with bus := (s.bus.afterRead l).afterRead h })

/-- R84, R85, R86, R87, R94: the absolute modes; an indexed address wraps modulo 65536 and crosses a page iff the high byte
changes; an indirect jump's pointer has its high byte read from the start of the same page when its low byte is 0xFF. The
order of the two reads is the spec's decision D4. -/
def Obligations.AbsoluteModesAndTheIndirectPageWrap : Prop :=
  ∀ (w : Word) (s : State),
    (locate (.absolute w) s).addr = w ∧ (locate (.absolute w) s).crossed = false ∧ (locate (.absolute w) s).state = s ∧
    (locate (.absoluteX w) s).addr.toNat = (w.toNat + s.x.toNat) % 65536 ∧ (locate (.absoluteX w) s).state = s ∧
    ((locate (.absoluteX w) s).crossed = true ↔ w.toNat / 256 ≠ (w.toNat + s.x.toNat) % 65536 / 256) ∧
    (locate (.absoluteY w) s).addr.toNat = (w.toNat + s.y.toNat) % 65536 ∧ (locate (.absoluteY w) s).state = s ∧
    ((locate (.absoluteY w) s).crossed = true ↔ w.toNat / 256 ≠ (w.toNat + s.y.toNat) % 65536 / 256) ∧
    (∀ h : Word, h.toNat = (if w.toNat % 256 = 255 then w.toNat - 255 else w.toNat + 1) →
      (locate (.indirect w) s).addr.toNat = (s.bus.value w).toNat + 256 * ((s.bus.afterRead w).value h).toNat ∧
      (locate (.indirect w) s).crossed = false ∧
      (locate (.indirect w) s).state = { s with bus := (s.bus.afterRead w).afterRead h })

/-- R79, R80: the operand read is one bus read at the effective address, after the mode's own reads, and answers what memory
holds there if it is bound to RAM; an immediate operand is the byte its fetch read, and its one read is that fetch (log 17). -/
def Obligations.OperandReadIsOneTransaction : Prop :=
  (∀ (v : Byte) (s : State), (load (.immediate v) s).value = v ∧ (load (.immediate v) s).state = s) ∧
  (∀ (o : Operand) (s : State), (∀ v, o ≠ .immediate v) →
    (load o s).state.bus.history = .read (locate o s).addr (load o s).value :: (locate o s).state.bus.history ∧
    (s.bus.isDevice (locate o s).addr = false → (load o s).value = s.bus.peek (locate o s).addr) ∧
    (load o s).state = { s with bus := (load o s).state.bus } ∧ (load o s).state.bus.devices = s.bus.devices ∧
    (load o s).state.bus.onReset = s.bus.onReset ∧ MemoryKept [] s (load o s).state)

/-! ## The instructions: result, flags, cycles and frame. `t = { s with … }` says that nothing else of the state changes -/

/-- R105, R106, R107 (LDA, LDX, LDY, all their forms): the register takes the operand, Z and N follow it. The page-cross
cycle is the spec's decision D8. An immediate operand's one read is its fetch (log 17). -/
def Obligations.LoadsFillTheirRegister : Prop :=
  ∀ (i : Instr) (o : Operand) (s : State), operandOf i = some o →
    let m := load o s
    let ph : Phase := .waiting s.cpuTicks (i.row.cycles + pageCycle (locate o s).crossed)
    (i.row.mnemonic = .lda → ∃ t, exec i s = .next t ∧
      t = { s with a := m.value, p := t.p, bus := m.state.bus, phase := ph } ∧
      getFlag .z t.p = (m.value == 0#8) ∧ getFlag .n t.p = m.value.getLsbD 7 ∧
      FlagsKept [.z, .n] s.p t.p ∧ MemoryKept [] s t) ∧
    (i.row.mnemonic = .ldx → ∃ t, exec i s = .next t ∧
      t = { s with x := m.value, p := t.p, bus := m.state.bus, phase := ph } ∧
      getFlag .z t.p = (m.value == 0#8) ∧ getFlag .n t.p = m.value.getLsbD 7 ∧
      FlagsKept [.z, .n] s.p t.p ∧ MemoryKept [] s t) ∧
    (i.row.mnemonic = .ldy → ∃ t, exec i s = .next t ∧
      t = { s with y := m.value, p := t.p, bus := m.state.bus, phase := ph } ∧
      getFlag .z t.p = (m.value == 0#8) ∧ getFlag .n t.p = m.value.getLsbD 7 ∧
      FlagsKept [.z, .n] s.p t.p ∧ MemoryKept [] s t)

/-- R108, R109, R110 (STA, STX, STY, all their forms): the register is stored at the effective address, with no read of it
and no page-cross cycle; no flag changes. No read and no page-cross cycle are its decisions D3 and D8. -/
def Obligations.StoresWriteTheirRegister : Prop :=
  ∀ (i : Instr) (o : Operand) (s : State) (v : Byte), i.row.mnemonic ∈ [Mnemonic.sta, .stx, .sty] →
    operandOf i = some o → comparedOrStored i.row.mnemonic s = some v →
    let ea := locate o s
    ∃ t, exec i s = .next t ∧
      t = { s with bus := ea.state.bus.afterWrite ea.addr v, phase := .waiting s.cpuTicks i.row.cycles } ∧
      Holds t ea.addr v ∧ MemoryKept [ea.addr] s t

/-- R111 to R116 (TAX, TAY, TXA, TYA, TSX, TXS): the destination takes the source; Z and N follow it, but TXS sets no flag. -/
def Obligations.TransfersCopyTheirSource : Prop :=
  ∀ s : State,
    (∀ c ∈ [(Instr.tax, s.a, State.setX s s.a), (.tay, s.a, s.setY s.a), (.txa, s.x, s.setA s.x),
        (.tya, s.y, s.setA s.y), (.tsx, s.sp, s.setX s.sp)],
      ∃ t, exec c.1 s = .next t ∧ t = { c.2.2 with p := t.p, phase := .waiting s.cpuTicks 2 } ∧
        getFlag .z t.p = (c.2.1 == 0#8) ∧ getFlag .n t.p = c.2.1.getLsbD 7 ∧ FlagsKept [.z, .n] s.p t.p ∧
        MemoryKept [] s t) ∧
    ∃ t, exec .txs s = .next t ∧ t = { s with sp := s.x, phase := .waiting s.cpuTicks 2 } ∧ MemoryKept [] s t

/-- R117 to R120 (PHA, PHP, PLA, PLP): the pushes store at `0x0100 | SP` and decrement SP, PHP with B set in the pushed
copy; the pulls increment SP and read there, PLP writing all eight bits of P. The pushed copy is the spec's decision D10. -/
def Obligations.StackInstructionsPushAndPull : Prop :=
  ∀ s : State,
    (∃ t, exec .pha s = .next t ∧
      t = { s with sp := s.sp - 1#8, bus := s.bus.afterWrite (stackAddr s.sp) s.a, phase := .waiting s.cpuTicks 3 } ∧
      Holds t (stackAddr s.sp) s.a ∧ MemoryKept [stackAddr s.sp] s t) ∧
    (∃ t v, exec .php s = .next t ∧
      t = { s with sp := s.sp - 1#8, bus := s.bus.afterWrite (stackAddr s.sp) v, phase := .waiting s.cpuTicks 3 } ∧
      getFlag .b v = true ∧ FlagsKept [.b] s.p v ∧
      Holds t (stackAddr s.sp) v ∧ MemoryKept [stackAddr s.sp] s t) ∧
    (let from_ := stackAddr (s.sp + 1#8)
     let v := s.bus.value from_
     (∃ t, exec .pla s = .next t ∧
       t = { s with a := v, p := t.p, sp := s.sp + 1#8, bus := s.bus.afterRead from_, phase := .waiting s.cpuTicks 4 } ∧
       getFlag .z t.p = (v == 0#8) ∧ getFlag .n t.p = v.getLsbD 7 ∧ FlagsKept [.z, .n] s.p t.p ∧ MemoryKept [] s t) ∧
     (∃ t, exec .plp s = .next t ∧
       t = { s with p := v, sp := s.sp + 1#8, bus := s.bus.afterRead from_, phase := .waiting s.cpuTicks 4 } ∧
       MemoryKept [] s t))

/-- R121, R122, R123 (AND, EOR, ORA, all their forms): A takes the result, Z and N follow it. An immediate operand's one
read is its fetch (log 17). -/
def Obligations.LogicInstructionsCombineWithA : Prop :=
  ∀ (i : Instr) (o : Operand) (s : State) (r : Byte), operandOf i = some o →
    let m := load o s
    ((i.row.mnemonic = .and ∧ r = s.a &&& m.value) ∨ (i.row.mnemonic = .eor ∧ r = s.a ^^^ m.value) ∨
      (i.row.mnemonic = .ora ∧ r = s.a ||| m.value)) →
    ∃ t, exec i s = .next t ∧
      t = { s with a := r, p := t.p, bus := m.state.bus,
                   phase := .waiting s.cpuTicks (i.row.cycles + pageCycle (locate o s).crossed) } ∧
      getFlag .z t.p = (r == 0#8) ∧ getFlag .n t.p = r.getLsbD 7 ∧ FlagsKept [.z, .n] s.p t.p ∧ MemoryKept [] s t

/-- R124 (BIT): Z from A & M, N and V copied from bits 7 and 6 of M; no register changes. -/
def Obligations.BitTestsMemoryAgainstA : Prop :=
  ∀ (i : Instr) (o : Operand) (s : State), i.row.mnemonic = .bit → operandOf i = some o →
    let m := load o s
    ∃ t, exec i s = .next t ∧
      t = { s with p := t.p, bus := m.state.bus, phase := .waiting s.cpuTicks i.row.cycles } ∧
      getFlag .z t.p = ((s.a &&& m.value) == 0#8) ∧ getFlag .n t.p = m.value.getLsbD 7 ∧
      getFlag .v t.p = m.value.getLsbD 6 ∧ FlagsKept [.z, .n, .v] s.p t.p ∧ MemoryKept [] s t

/-- R125, R103 (ADC, all its forms): A takes the sum with carry, BCD when D is set; C, V, Z, N from it, V and Z and N
from the BCD result too. V, Z and N in decimal mode are the spec's decision D12. An immediate operand's one read is its
fetch (log 17). -/
def Obligations.AdcAddsWithCarry : Prop :=
  ∀ (i : Instr) (o : Operand) (s : State), i.row.mnemonic = .adc → operandOf i = some o →
    let m := load o s
    let r := if getFlag .d s.p then addBcd s.a m.value (getFlag .c s.p) else addBin s.a m.value (getFlag .c s.p)
    ∃ t, exec i s = .next t ∧
      t = { s with a := r.1, p := t.p, bus := m.state.bus,
                   phase := .waiting s.cpuTicks (i.row.cycles + pageCycle (locate o s).crossed) } ∧
      getFlag .c t.p = r.2 ∧ getFlag .v t.p = vAdd s.a m.value r.1 ∧ getFlag .z t.p = (r.1 == 0#8) ∧
      getFlag .n t.p = r.1.getLsbD 7 ∧ FlagsKept [.c, .v, .z, .n] s.p t.p ∧ MemoryKept [] s t

/-- R126, R103 (SBC, all its forms): A takes the difference with borrow, BCD when D is set; C, V, Z, N from it. V, Z and
N in decimal mode are the spec's decision D12. An immediate operand's one read is its fetch (log 17). -/
def Obligations.SbcSubtractsWithBorrow : Prop :=
  ∀ (i : Instr) (o : Operand) (s : State), i.row.mnemonic = .sbc → operandOf i = some o →
    let m := load o s
    let r := if getFlag .d s.p then subBcd s.a m.value (getFlag .c s.p) else subBin s.a m.value (getFlag .c s.p)
    ∃ t, exec i s = .next t ∧
      t = { s with a := r.1, p := t.p, bus := m.state.bus,
                   phase := .waiting s.cpuTicks (i.row.cycles + pageCycle (locate o s).crossed) } ∧
      getFlag .c t.p = r.2 ∧ getFlag .v t.p = vSub s.a m.value r.1 ∧ getFlag .z t.p = (r.1 == 0#8) ∧
      getFlag .n t.p = r.1.getLsbD 7 ∧ FlagsKept [.c, .v, .z, .n] s.p t.p ∧ MemoryKept [] s t

/-- R127, R128, R129 (CMP, CPX, CPY, all their forms): C iff the register is at least the operand, Z iff equal, N from
the difference modulo 256; no carry-in, D ignored, no register and no V written. No carry-in is the spec's decision D9.
An immediate operand's one read is its fetch (log 17). -/
def Obligations.ComparisonsSetOnlyFlags : Prop :=
  ∀ (i : Instr) (o : Operand) (s : State) (v : Byte), i.row.mnemonic ∈ [Mnemonic.cmp, .cpx, .cpy] →
    operandOf i = some o → comparedOrStored i.row.mnemonic s = some v →
    let m := load o s
    ∃ t, exec i s = .next t ∧
      t = { s with p := t.p, bus := m.state.bus,
                   phase := .waiting s.cpuTicks (i.row.cycles + pageCycle (locate o s).crossed) } ∧
      (getFlag .c t.p = true ↔ m.value.toNat ≤ v.toNat) ∧ (getFlag .z t.p = true ↔ v = m.value) ∧
      getFlag .n t.p = (v - m.value).getLsbD 7 ∧ FlagsKept [.c, .z, .n] s.p t.p ∧ MemoryKept [] s t

/-- R132, R133 (INC, DEC, all their forms): one read and one write at the effective address; Z and N follow the result. One
read and one write are the spec's decision D3. -/
def Obligations.MemoryIncrementsAndDecrements : Prop :=
  ∀ (i : Instr) (o : Operand) (s : State) (r : Byte), operandOf i = some o →
    let ea := locate o s
    let v := ea.state.bus.value ea.addr
    ((i.row.mnemonic = .inc ∧ r.toNat = (v.toNat + 1) % 256) ∨ (i.row.mnemonic = .dec ∧ r.toNat = (v.toNat + 255) % 256)) →
    ∃ t, exec i s = .next t ∧
      t = { s with p := t.p, bus := (ea.state.bus.afterRead ea.addr).afterWrite ea.addr r,
                   phase := .waiting s.cpuTicks i.row.cycles } ∧
      getFlag .z t.p = (r == 0#8) ∧ getFlag .n t.p = r.getLsbD 7 ∧ FlagsKept [.z, .n] s.p t.p ∧
      Holds t ea.addr r ∧ MemoryKept [ea.addr] s t

/-- R134 to R137 (INX, INY, DEX, DEY): the register moves by one modulo 256; Z and N follow it. -/
def Obligations.RegisterIncrementsAndDecrements : Prop :=
  ∀ (s : State) (r : Byte) (c : Instr × State),
    ((r.toNat = (s.x.toNat + 1) % 256 ∧ c = (.inx, s.setX r)) ∨ (r.toNat = (s.y.toNat + 1) % 256 ∧ c = (.iny, s.setY r)) ∨
      (r.toNat = (s.x.toNat + 255) % 256 ∧ c = (.dex, s.setX r)) ∨
      (r.toNat = (s.y.toNat + 255) % 256 ∧ c = (.dey, s.setY r))) →
    ∃ t, exec c.1 s = .next t ∧ t = { c.2 with p := t.p, phase := .waiting s.cpuTicks 2 } ∧
      getFlag .z t.p = (r == 0#8) ∧ getFlag .n t.p = r.getLsbD 7 ∧ FlagsKept [.z, .n] s.p t.p ∧ MemoryKept [] s t

/-- R138 to R141, accumulator forms (ASL A, LSR A, ROL A, ROR A): A takes the shifted byte, C the bit shifted out, Z and N follow
the result; no bus access. -/
def Obligations.AccumulatorShiftsAndRotates : Prop :=
  ∀ (i : Instr) (s : State) (r : Byte) (c : Bool), i.row.mode = .accumulator →
    shiftSpec i.row.mnemonic s.a (getFlag .c s.p) = some (r, c) →
    ∃ t, exec i s = .next t ∧ t = { s with a := r, p := t.p, phase := .waiting s.cpuTicks 2 } ∧
      getFlag .c t.p = c ∧ getFlag .z t.p = (r == 0#8) ∧ getFlag .n t.p = r.getLsbD 7 ∧
      FlagsKept [.c, .z, .n] s.p t.p ∧ MemoryKept [] s t

/-- R138 to R141, memory forms (ASL, LSR, ROL, ROR): one read and one write at the effective address, C the bit shifted out,
Z and N follow the result. One read and one write are the spec's decision D3. -/
def Obligations.MemoryShiftsAndRotates : Prop :=
  ∀ (i : Instr) (o : Operand) (s : State) (r : Byte) (c : Bool), operandOf i = some o →
    let ea := locate o s
    shiftSpec i.row.mnemonic (ea.state.bus.value ea.addr) (getFlag .c s.p) = some (r, c) →
    ∃ t, exec i s = .next t ∧
      t = { s with p := t.p, bus := (ea.state.bus.afterRead ea.addr).afterWrite ea.addr r,
                   phase := .waiting s.cpuTicks i.row.cycles } ∧
      getFlag .c t.p = c ∧ getFlag .z t.p = (r == 0#8) ∧ getFlag .n t.p = r.getLsbD 7 ∧
      FlagsKept [.c, .z, .n] s.p t.p ∧ Holds t ea.addr r ∧ MemoryKept [ea.addr] s t

/-- R142 (JMP absolute and indirect): PC takes the effective address, 3 and 5 cycles; no flag changes. -/
def Obligations.JumpsSetPC : Prop :=
  ∀ (s : State) (w : Word),
    (∃ t, exec (.jmpAbsolute w) s = .next t ∧ t = { s with pc := w, phase := .waiting s.cpuTicks 3 } ∧
      MemoryKept [] s t) ∧
    (∃ t, exec (.jmpIndirect w) s = .next t ∧
      t = { s with pc := (locate (.indirect w) s).addr, bus := (locate (.indirect w) s).state.bus,
                   phase := .waiting s.cpuTicks 5 } ∧ MemoryKept [] s t)

/-- R143, R144 (JSR, RTS): JSR pushes the address of its own last byte, high byte first, and jumps; RTS pulls an address,
low byte first, and goes on one past it. The operand is fetched before the pushes by the spec's decision D5. -/
def Obligations.SubroutineCallAndReturn : Prop :=
  ∀ (s : State) (w : Word),
    (∃ t, exec (.jsr w) s = .next t ∧
      t = { s with pc := w, sp := s.sp - 2#8, phase := .waiting s.cpuTicks 6,
                   bus := (s.bus.afterWrite (stackAddr s.sp) (hi (s.pc - 1#16))).afterWrite (stackAddr (s.sp - 1#8))
                     (lo (s.pc - 1#16)) } ∧
      Holds t (stackAddr s.sp) (hi (s.pc - 1#16)) ∧ Holds t (stackAddr (s.sp - 1#8)) (lo (s.pc - 1#16)) ∧
      MemoryKept [stackAddr s.sp, stackAddr (s.sp - 1#8)] s t) ∧
    (let l := stackAddr (s.sp + 1#8)
     let h := stackAddr (s.sp + 2#8)
     ∃ t, exec .rts s = .next t ∧
      t = { s with pc := w16 (s.bus.value l) ((s.bus.afterRead l).value h) + 1#16, sp := s.sp + 2#8,
                   bus := (s.bus.afterRead l).afterRead h, phase := .waiting s.cpuTicks 6 } ∧ MemoryKept [] s t)

/-- R145 to R153, R90 (the eight branches): taken when the condition holds, to the post-operand PC plus the signed offset
modulo 65536, for 3 cycles, or 4 when the target lies on another page; else nothing but 2 cycles. No flag changes. The
conditions are the spec's rows G6. -/
def Obligations.BranchesFollowTheirCondition : Prop :=
  ∀ (i : Instr) (off : Byte) (s : State) (target : Word), operandOf i = some (.relative off) →
    (target.toNat : Int) = ((s.pc.toNat : Int) + off.toInt) % 65536 →
    (branchCondition i.row.mnemonic s.p = true →
      ∃ t, exec i s = .next t ∧
        t = { s with pc := target, phase := .waiting s.cpuTicks (3 + (if hi target ≠ hi s.pc then 1 else 0)) } ∧
        MemoryKept [] s t) ∧
    (branchCondition i.row.mnemonic s.p = false →
      ∃ t, exec i s = .next t ∧ t = { s with phase := .waiting s.cpuTicks 2 } ∧ MemoryKept [] s t)

/-- R155 to R161, R164 (CLC, CLD, CLI, CLV, SEC, SED, SEI, NOP): each flag instruction writes its one flag and nothing else,
NOP writes nothing; 2 cycles. The flags are the spec's rows G7, NOP its row G8. -/
def Obligations.FlagInstructionsWriteOneFlag : Prop :=
  ∀ s : State,
    (∀ c ∈ [(Instr.clc, Flag.c, false), (.cld, .d, false), (.cli, .i, false), (.clv, .v, false), (.sec, .c, true),
        (.sed, .d, true), (.sei, .i, true)],
      ∃ t, exec c.1 s = .next t ∧ t = { s with p := t.p, phase := .waiting s.cpuTicks 2 } ∧
        getFlag c.2.1 t.p = c.2.2 ∧ FlagsKept [c.2.1] s.p t.p ∧ MemoryKept [] s t) ∧
    ∃ t, exec .nop s = .next t ∧ t = { s with phase := .waiting s.cpuTicks 2 } ∧ MemoryKept [] s t

/-- R162, R168 (BRK): the address after the padding byte is pushed, high byte first, then P with B set in the pushed copy; I
is set and nothing else of P; SP falls by 3; PC is the word at 0xFFFE/0xFFFF, low byte read first; 7 cycles. The padding
byte is not read by its decision D6, the low byte comes first by D4. -/
def Obligations.BrkTakesTheException : Prop :=
  ∀ s : State,
    let ret := s.pc + 1#16
    ∃ t pushed, exec .brk s = .next t ∧
      (let b3 := ((s.bus.afterWrite (stackAddr s.sp) (hi ret)).afterWrite (stackAddr (s.sp - 1#8)) (lo ret)).afterWrite
         (stackAddr (s.sp - 2#8)) pushed
       t = { s with sp := s.sp - 3#8, p := t.p, pc := w16 (b3.value 0xFFFE#16) ((b3.afterRead 0xFFFE#16).value 0xFFFF#16),
                    bus := (b3.afterRead 0xFFFE#16).afterRead 0xFFFF#16, phase := .waiting s.cpuTicks 7 }) ∧
      getFlag .b pushed = true ∧ FlagsKept [.b] s.p pushed ∧
      getFlag .i t.p = true ∧ FlagsKept [.i] s.p t.p ∧
      Holds t (stackAddr s.sp) (hi ret) ∧ Holds t (stackAddr (s.sp - 1#8)) (lo ret) ∧
      Holds t (stackAddr (s.sp - 2#8)) pushed ∧
      MemoryKept [stackAddr s.sp, stackAddr (s.sp - 1#8), stackAddr (s.sp - 2#8)] s t

/-- R163, R171 (RTI): all eight bits of P are pulled, then the return address, low byte first, which is not adjusted. -/
def Obligations.RtiReturnsFromTheException : Prop :=
  ∀ s : State,
    let b1 := s.bus.afterRead (stackAddr (s.sp + 1#8))
    let b2 := b1.afterRead (stackAddr (s.sp + 2#8))
    ∃ t, exec .rti s = .next t ∧
      t = { s with p := s.bus.value (stackAddr (s.sp + 1#8)), sp := s.sp + 3#8,
                   pc := w16 (b1.value (stackAddr (s.sp + 2#8))) (b2.value (stackAddr (s.sp + 3#8))),
                   bus := b2.afterRead (stackAddr (s.sp + 3#8)), phase := .waiting s.cpuTicks 6 } ∧ MemoryKept [] s t

/-- R54, R144, R163: with the stack page in RAM, the pulls give back what the pushes stored and SP returns to where it was: A
and SP after PHA and PLA; PC (the instruction after the call), SP and P after JSR and RTS; PC (past the padding byte), SP
and P with B set after BRK and RTI. R54's sentence is derived by the spec. -/
def Obligations.PullsGiveBackWhatPushesStored : Prop :=
  ∀ (s t u : State), (∀ sp : Byte, s.bus.isDevice (stackAddr sp) = false) →
    (exec .pha s = .next t → exec .pla t = .next u → u.a = s.a ∧ u.sp = s.sp) ∧
    (∀ w, exec (.jsr w) s = .next t → exec .rts t = .next u → u.pc = s.pc ∧ u.sp = s.sp ∧ u.p = s.p) ∧
    (exec .brk s = .next t → exec .rti t = .next u →
      u.pc = s.pc + 1#16 ∧ u.sp = s.sp ∧ getFlag .b u.p = true ∧ FlagsKept [.b] s.p u.p)
end

