-- ==== Sys2Proof/Laws/State.lean ====
section
/-! SUPPORT. One lemma for each field and each register update: an update sets its field and leaves the others. -/

namespace Sys2Proof.Machine

@[simp] theorem State.setA_a (s : State) (v : Byte) : (s.setA v).a = v := rfl
@[simp] theorem State.setA_x (s : State) (v : Byte) : (s.setA v).x = s.x := rfl
@[simp] theorem State.setA_y (s : State) (v : Byte) : (s.setA v).y = s.y := rfl
@[simp] theorem State.setA_sp (s : State) (v : Byte) : (s.setA v).sp = s.sp := rfl
@[simp] theorem State.setA_p (s : State) (v : Byte) : (s.setA v).p = s.p := rfl
@[simp] theorem State.setA_pc (s : State) (v : Byte) : (s.setA v).pc = s.pc := rfl
@[simp] theorem State.setA_phase (s : State) (v : Byte) : (s.setA v).phase = s.phase := rfl
@[simp] theorem State.setA_lastReturn (s : State) (v : Byte) : (s.setA v).lastReturn = s.lastReturn := rfl
@[simp] theorem State.setA_bus (s : State) (v : Byte) : (s.setA v).bus = s.bus := rfl
@[simp] theorem State.setA_clock (s : State) (v : Byte) : (s.setA v).clock = s.clock := rfl
@[simp] theorem State.setA_cpuClock (s : State) (v : Byte) : (s.setA v).cpuClock = s.cpuClock := rfl
@[simp] theorem State.setA_agenda (s : State) (v : Byte) : (s.setA v).agenda = s.agenda := rfl

@[simp] theorem State.setX_a (s : State) (v : Byte) : (s.setX v).a = s.a := rfl
@[simp] theorem State.setX_x (s : State) (v : Byte) : (s.setX v).x = v := rfl
@[simp] theorem State.setX_y (s : State) (v : Byte) : (s.setX v).y = s.y := rfl
@[simp] theorem State.setX_sp (s : State) (v : Byte) : (s.setX v).sp = s.sp := rfl
@[simp] theorem State.setX_p (s : State) (v : Byte) : (s.setX v).p = s.p := rfl
@[simp] theorem State.setX_pc (s : State) (v : Byte) : (s.setX v).pc = s.pc := rfl
@[simp] theorem State.setX_phase (s : State) (v : Byte) : (s.setX v).phase = s.phase := rfl
@[simp] theorem State.setX_lastReturn (s : State) (v : Byte) : (s.setX v).lastReturn = s.lastReturn := rfl
@[simp] theorem State.setX_bus (s : State) (v : Byte) : (s.setX v).bus = s.bus := rfl
@[simp] theorem State.setX_clock (s : State) (v : Byte) : (s.setX v).clock = s.clock := rfl
@[simp] theorem State.setX_cpuClock (s : State) (v : Byte) : (s.setX v).cpuClock = s.cpuClock := rfl
@[simp] theorem State.setX_agenda (s : State) (v : Byte) : (s.setX v).agenda = s.agenda := rfl

@[simp] theorem State.setY_a (s : State) (v : Byte) : (s.setY v).a = s.a := rfl
@[simp] theorem State.setY_x (s : State) (v : Byte) : (s.setY v).x = s.x := rfl
@[simp] theorem State.setY_y (s : State) (v : Byte) : (s.setY v).y = v := rfl
@[simp] theorem State.setY_sp (s : State) (v : Byte) : (s.setY v).sp = s.sp := rfl
@[simp] theorem State.setY_p (s : State) (v : Byte) : (s.setY v).p = s.p := rfl
@[simp] theorem State.setY_pc (s : State) (v : Byte) : (s.setY v).pc = s.pc := rfl
@[simp] theorem State.setY_phase (s : State) (v : Byte) : (s.setY v).phase = s.phase := rfl
@[simp] theorem State.setY_lastReturn (s : State) (v : Byte) : (s.setY v).lastReturn = s.lastReturn := rfl
@[simp] theorem State.setY_bus (s : State) (v : Byte) : (s.setY v).bus = s.bus := rfl
@[simp] theorem State.setY_clock (s : State) (v : Byte) : (s.setY v).clock = s.clock := rfl
@[simp] theorem State.setY_cpuClock (s : State) (v : Byte) : (s.setY v).cpuClock = s.cpuClock := rfl
@[simp] theorem State.setY_agenda (s : State) (v : Byte) : (s.setY v).agenda = s.agenda := rfl

@[simp] theorem State.setSP_a (s : State) (v : Byte) : (s.setSP v).a = s.a := rfl
@[simp] theorem State.setSP_x (s : State) (v : Byte) : (s.setSP v).x = s.x := rfl
@[simp] theorem State.setSP_y (s : State) (v : Byte) : (s.setSP v).y = s.y := rfl
@[simp] theorem State.setSP_sp (s : State) (v : Byte) : (s.setSP v).sp = v := rfl
@[simp] theorem State.setSP_p (s : State) (v : Byte) : (s.setSP v).p = s.p := rfl
@[simp] theorem State.setSP_pc (s : State) (v : Byte) : (s.setSP v).pc = s.pc := rfl
@[simp] theorem State.setSP_phase (s : State) (v : Byte) : (s.setSP v).phase = s.phase := rfl
@[simp] theorem State.setSP_lastReturn (s : State) (v : Byte) : (s.setSP v).lastReturn = s.lastReturn := rfl
@[simp] theorem State.setSP_bus (s : State) (v : Byte) : (s.setSP v).bus = s.bus := rfl
@[simp] theorem State.setSP_clock (s : State) (v : Byte) : (s.setSP v).clock = s.clock := rfl
@[simp] theorem State.setSP_cpuClock (s : State) (v : Byte) : (s.setSP v).cpuClock = s.cpuClock := rfl
@[simp] theorem State.setSP_agenda (s : State) (v : Byte) : (s.setSP v).agenda = s.agenda := rfl

@[simp] theorem State.setP_a (s : State) (v : Byte) : (s.setP v).a = s.a := rfl
@[simp] theorem State.setP_x (s : State) (v : Byte) : (s.setP v).x = s.x := rfl
@[simp] theorem State.setP_y (s : State) (v : Byte) : (s.setP v).y = s.y := rfl
@[simp] theorem State.setP_sp (s : State) (v : Byte) : (s.setP v).sp = s.sp := rfl
@[simp] theorem State.setP_p (s : State) (v : Byte) : (s.setP v).p = v := rfl
@[simp] theorem State.setP_pc (s : State) (v : Byte) : (s.setP v).pc = s.pc := rfl
@[simp] theorem State.setP_phase (s : State) (v : Byte) : (s.setP v).phase = s.phase := rfl
@[simp] theorem State.setP_lastReturn (s : State) (v : Byte) : (s.setP v).lastReturn = s.lastReturn := rfl
@[simp] theorem State.setP_bus (s : State) (v : Byte) : (s.setP v).bus = s.bus := rfl
@[simp] theorem State.setP_clock (s : State) (v : Byte) : (s.setP v).clock = s.clock := rfl
@[simp] theorem State.setP_cpuClock (s : State) (v : Byte) : (s.setP v).cpuClock = s.cpuClock := rfl
@[simp] theorem State.setP_agenda (s : State) (v : Byte) : (s.setP v).agenda = s.agenda := rfl

@[simp] theorem State.setPC_a (s : State) (v : Word) : (s.setPC v).a = s.a := rfl
@[simp] theorem State.setPC_x (s : State) (v : Word) : (s.setPC v).x = s.x := rfl
@[simp] theorem State.setPC_y (s : State) (v : Word) : (s.setPC v).y = s.y := rfl
@[simp] theorem State.setPC_sp (s : State) (v : Word) : (s.setPC v).sp = s.sp := rfl
@[simp] theorem State.setPC_p (s : State) (v : Word) : (s.setPC v).p = s.p := rfl
@[simp] theorem State.setPC_pc (s : State) (v : Word) : (s.setPC v).pc = v := rfl
@[simp] theorem State.setPC_phase (s : State) (v : Word) : (s.setPC v).phase = s.phase := rfl
@[simp] theorem State.setPC_lastReturn (s : State) (v : Word) : (s.setPC v).lastReturn = s.lastReturn := rfl
@[simp] theorem State.setPC_bus (s : State) (v : Word) : (s.setPC v).bus = s.bus := rfl
@[simp] theorem State.setPC_clock (s : State) (v : Word) : (s.setPC v).clock = s.clock := rfl
@[simp] theorem State.setPC_cpuClock (s : State) (v : Word) : (s.setPC v).cpuClock = s.cpuClock := rfl
@[simp] theorem State.setPC_agenda (s : State) (v : Word) : (s.setPC v).agenda = s.agenda := rfl

@[simp] theorem State.setPhase_a (s : State) (v : Phase) : (s.setPhase v).a = s.a := rfl
@[simp] theorem State.setPhase_x (s : State) (v : Phase) : (s.setPhase v).x = s.x := rfl
@[simp] theorem State.setPhase_y (s : State) (v : Phase) : (s.setPhase v).y = s.y := rfl
@[simp] theorem State.setPhase_sp (s : State) (v : Phase) : (s.setPhase v).sp = s.sp := rfl
@[simp] theorem State.setPhase_p (s : State) (v : Phase) : (s.setPhase v).p = s.p := rfl
@[simp] theorem State.setPhase_pc (s : State) (v : Phase) : (s.setPhase v).pc = s.pc := rfl
@[simp] theorem State.setPhase_phase (s : State) (v : Phase) : (s.setPhase v).phase = v := rfl
@[simp] theorem State.setPhase_lastReturn (s : State) (v : Phase) : (s.setPhase v).lastReturn = s.lastReturn := rfl
@[simp] theorem State.setPhase_bus (s : State) (v : Phase) : (s.setPhase v).bus = s.bus := rfl
@[simp] theorem State.setPhase_clock (s : State) (v : Phase) : (s.setPhase v).clock = s.clock := rfl
@[simp] theorem State.setPhase_cpuClock (s : State) (v : Phase) : (s.setPhase v).cpuClock = s.cpuClock := rfl
@[simp] theorem State.setPhase_agenda (s : State) (v : Phase) : (s.setPhase v).agenda = s.agenda := rfl

@[simp] theorem State.setLastReturn_a (s : State) (v : Option ExecReturn) : (s.setLastReturn v).a = s.a := rfl
@[simp] theorem State.setLastReturn_x (s : State) (v : Option ExecReturn) : (s.setLastReturn v).x = s.x := rfl
@[simp] theorem State.setLastReturn_y (s : State) (v : Option ExecReturn) : (s.setLastReturn v).y = s.y := rfl
@[simp] theorem State.setLastReturn_sp (s : State) (v : Option ExecReturn) : (s.setLastReturn v).sp = s.sp := rfl
@[simp] theorem State.setLastReturn_p (s : State) (v : Option ExecReturn) : (s.setLastReturn v).p = s.p := rfl
@[simp] theorem State.setLastReturn_pc (s : State) (v : Option ExecReturn) : (s.setLastReturn v).pc = s.pc := rfl
@[simp] theorem State.setLastReturn_phase (s : State) (v : Option ExecReturn) : (s.setLastReturn v).phase = s.phase := rfl
@[simp] theorem State.setLastReturn_lastReturn (s : State) (v : Option ExecReturn) : (s.setLastReturn v).lastReturn = v := rfl
@[simp] theorem State.setLastReturn_bus (s : State) (v : Option ExecReturn) : (s.setLastReturn v).bus = s.bus := rfl
@[simp] theorem State.setLastReturn_clock (s : State) (v : Option ExecReturn) : (s.setLastReturn v).clock = s.clock := rfl
@[simp] theorem State.setLastReturn_cpuClock (s : State) (v : Option ExecReturn) : (s.setLastReturn v).cpuClock = s.cpuClock := rfl
@[simp] theorem State.setLastReturn_agenda (s : State) (v : Option ExecReturn) : (s.setLastReturn v).agenda = s.agenda := rfl

@[simp] theorem State.setBus_a (s : State) (v : Bus) : (s.setBus v).a = s.a := rfl
@[simp] theorem State.setBus_x (s : State) (v : Bus) : (s.setBus v).x = s.x := rfl
@[simp] theorem State.setBus_y (s : State) (v : Bus) : (s.setBus v).y = s.y := rfl
@[simp] theorem State.setBus_sp (s : State) (v : Bus) : (s.setBus v).sp = s.sp := rfl
@[simp] theorem State.setBus_p (s : State) (v : Bus) : (s.setBus v).p = s.p := rfl
@[simp] theorem State.setBus_pc (s : State) (v : Bus) : (s.setBus v).pc = s.pc := rfl
@[simp] theorem State.setBus_phase (s : State) (v : Bus) : (s.setBus v).phase = s.phase := rfl
@[simp] theorem State.setBus_lastReturn (s : State) (v : Bus) : (s.setBus v).lastReturn = s.lastReturn := rfl
@[simp] theorem State.setBus_bus (s : State) (v : Bus) : (s.setBus v).bus = v := rfl
@[simp] theorem State.setBus_clock (s : State) (v : Bus) : (s.setBus v).clock = s.clock := rfl
@[simp] theorem State.setBus_cpuClock (s : State) (v : Bus) : (s.setBus v).cpuClock = s.cpuClock := rfl
@[simp] theorem State.setBus_agenda (s : State) (v : Bus) : (s.setBus v).agenda = s.agenda := rfl

@[simp] theorem State.setClock_a (s : State) (v : Clock) : (s.setClock v).a = s.a := rfl
@[simp] theorem State.setClock_x (s : State) (v : Clock) : (s.setClock v).x = s.x := rfl
@[simp] theorem State.setClock_y (s : State) (v : Clock) : (s.setClock v).y = s.y := rfl
@[simp] theorem State.setClock_sp (s : State) (v : Clock) : (s.setClock v).sp = s.sp := rfl
@[simp] theorem State.setClock_p (s : State) (v : Clock) : (s.setClock v).p = s.p := rfl
@[simp] theorem State.setClock_pc (s : State) (v : Clock) : (s.setClock v).pc = s.pc := rfl
@[simp] theorem State.setClock_phase (s : State) (v : Clock) : (s.setClock v).phase = s.phase := rfl
@[simp] theorem State.setClock_lastReturn (s : State) (v : Clock) : (s.setClock v).lastReturn = s.lastReturn := rfl
@[simp] theorem State.setClock_bus (s : State) (v : Clock) : (s.setClock v).bus = s.bus := rfl
@[simp] theorem State.setClock_clock (s : State) (v : Clock) : (s.setClock v).clock = v := rfl
@[simp] theorem State.setClock_cpuClock (s : State) (v : Clock) : (s.setClock v).cpuClock = s.cpuClock := rfl
@[simp] theorem State.setClock_agenda (s : State) (v : Clock) : (s.setClock v).agenda = s.agenda := rfl

@[simp] theorem State.setAgenda_a (s : State) (v : List Move) : (s.setAgenda v).a = s.a := rfl
@[simp] theorem State.setAgenda_x (s : State) (v : List Move) : (s.setAgenda v).x = s.x := rfl
@[simp] theorem State.setAgenda_y (s : State) (v : List Move) : (s.setAgenda v).y = s.y := rfl
@[simp] theorem State.setAgenda_sp (s : State) (v : List Move) : (s.setAgenda v).sp = s.sp := rfl
@[simp] theorem State.setAgenda_p (s : State) (v : List Move) : (s.setAgenda v).p = s.p := rfl
@[simp] theorem State.setAgenda_pc (s : State) (v : List Move) : (s.setAgenda v).pc = s.pc := rfl
@[simp] theorem State.setAgenda_phase (s : State) (v : List Move) : (s.setAgenda v).phase = s.phase := rfl
@[simp] theorem State.setAgenda_lastReturn (s : State) (v : List Move) : (s.setAgenda v).lastReturn = s.lastReturn := rfl
@[simp] theorem State.setAgenda_bus (s : State) (v : List Move) : (s.setAgenda v).bus = s.bus := rfl
@[simp] theorem State.setAgenda_clock (s : State) (v : List Move) : (s.setAgenda v).clock = s.clock := rfl
@[simp] theorem State.setAgenda_cpuClock (s : State) (v : List Move) : (s.setAgenda v).cpuClock = s.cpuClock := rfl
@[simp] theorem State.setAgenda_agenda (s : State) (v : List Move) : (s.setAgenda v).agenda = v := rfl

@[simp] theorem State.finish_a (s : State) (c : Nat) : (s.finish c).a = s.a := rfl
@[simp] theorem State.finish_x (s : State) (c : Nat) : (s.finish c).x = s.x := rfl
@[simp] theorem State.finish_y (s : State) (c : Nat) : (s.finish c).y = s.y := rfl
@[simp] theorem State.finish_sp (s : State) (c : Nat) : (s.finish c).sp = s.sp := rfl
@[simp] theorem State.finish_p (s : State) (c : Nat) : (s.finish c).p = s.p := rfl
@[simp] theorem State.finish_pc (s : State) (c : Nat) : (s.finish c).pc = s.pc := rfl
@[simp] theorem State.finish_phase (s : State) (c : Nat) : (s.finish c).phase = .waiting s.cpuTicks c := rfl
@[simp] theorem State.finish_lastReturn (s : State) (c : Nat) : (s.finish c).lastReturn = s.lastReturn := rfl
@[simp] theorem State.finish_bus (s : State) (c : Nat) : (s.finish c).bus = s.bus := rfl
@[simp] theorem State.finish_clock (s : State) (c : Nat) : (s.finish c).clock = s.clock := rfl
@[simp] theorem State.finish_cpuClock (s : State) (c : Nat) : (s.finish c).cpuClock = s.cpuClock := rfl
@[simp] theorem State.finish_agenda (s : State) (c : Nat) : (s.finish c).agenda = s.agenda := rfl

@[simp] theorem State.executeReturns_a (s : State) (c : Nat) : (s.executeReturns c).a = s.a := rfl
@[simp] theorem State.executeReturns_x (s : State) (c : Nat) : (s.executeReturns c).x = s.x := rfl
@[simp] theorem State.executeReturns_y (s : State) (c : Nat) : (s.executeReturns c).y = s.y := rfl
@[simp] theorem State.executeReturns_sp (s : State) (c : Nat) : (s.executeReturns c).sp = s.sp := rfl
@[simp] theorem State.executeReturns_p (s : State) (c : Nat) : (s.executeReturns c).p = s.p := rfl
@[simp] theorem State.executeReturns_pc (s : State) (c : Nat) : (s.executeReturns c).pc = s.pc := rfl
@[simp] theorem State.executeReturns_phase (s : State) (c : Nat) : (s.executeReturns c).phase = .ready := rfl
@[simp] theorem State.executeReturns_lastReturn (s : State) (c : Nat) : (s.executeReturns c).lastReturn = some { cycles := BitVec.ofNat 16 c, error := none } := rfl
@[simp] theorem State.executeReturns_bus (s : State) (c : Nat) : (s.executeReturns c).bus = s.bus := rfl
@[simp] theorem State.executeReturns_clock (s : State) (c : Nat) : (s.executeReturns c).clock = s.clock := rfl
@[simp] theorem State.executeReturns_cpuClock (s : State) (c : Nat) : (s.executeReturns c).cpuClock = s.cpuClock := rfl
@[simp] theorem State.executeReturns_agenda (s : State) (c : Nat) : (s.executeReturns c).agenda = s.agenda := rfl

@[simp] theorem State.badOpcode_a (s : State) (c : Byte) : (s.badOpcode c).a = s.a := rfl
@[simp] theorem State.badOpcode_x (s : State) (c : Byte) : (s.badOpcode c).x = s.x := rfl
@[simp] theorem State.badOpcode_y (s : State) (c : Byte) : (s.badOpcode c).y = s.y := rfl
@[simp] theorem State.badOpcode_sp (s : State) (c : Byte) : (s.badOpcode c).sp = s.sp := rfl
@[simp] theorem State.badOpcode_p (s : State) (c : Byte) : (s.badOpcode c).p = s.p := rfl
@[simp] theorem State.badOpcode_pc (s : State) (c : Byte) : (s.badOpcode c).pc = s.pc := rfl
@[simp] theorem State.badOpcode_phase (s : State) (c : Byte) : (s.badOpcode c).phase = .halted c := rfl
@[simp] theorem State.badOpcode_lastReturn (s : State) (c : Byte) : (s.badOpcode c).lastReturn = some { cycles := 0#16, error := some c } := rfl
@[simp] theorem State.badOpcode_bus (s : State) (c : Byte) : (s.badOpcode c).bus = s.bus := rfl
@[simp] theorem State.badOpcode_clock (s : State) (c : Byte) : (s.badOpcode c).clock = s.clock := rfl
@[simp] theorem State.badOpcode_cpuClock (s : State) (c : Byte) : (s.badOpcode c).cpuClock = s.cpuClock := rfl
@[simp] theorem State.badOpcode_agenda (s : State) (c : Byte) : (s.badOpcode c).agenda = s.agenda := rfl

@[simp] theorem State.setA_cpuTicks (s : State) (v : Byte) : (s.setA v).cpuTicks = s.cpuTicks := rfl
@[simp] theorem State.setX_cpuTicks (s : State) (v : Byte) : (s.setX v).cpuTicks = s.cpuTicks := rfl
@[simp] theorem State.setY_cpuTicks (s : State) (v : Byte) : (s.setY v).cpuTicks = s.cpuTicks := rfl
@[simp] theorem State.setSP_cpuTicks (s : State) (v : Byte) : (s.setSP v).cpuTicks = s.cpuTicks := rfl
@[simp] theorem State.setP_cpuTicks (s : State) (v : Byte) : (s.setP v).cpuTicks = s.cpuTicks := rfl
@[simp] theorem State.setPC_cpuTicks (s : State) (v : Word) : (s.setPC v).cpuTicks = s.cpuTicks := rfl
@[simp] theorem State.setPhase_cpuTicks (s : State) (v : Phase) : (s.setPhase v).cpuTicks = s.cpuTicks := rfl
@[simp] theorem State.setLastReturn_cpuTicks (s : State) (v : Option ExecReturn) : (s.setLastReturn v).cpuTicks = s.cpuTicks := rfl
@[simp] theorem State.setBus_cpuTicks (s : State) (v : Bus) : (s.setBus v).cpuTicks = s.cpuTicks := rfl
@[simp] theorem State.setAgenda_cpuTicks (s : State) (v : List Move) : (s.setAgenda v).cpuTicks = s.cpuTicks := rfl

/-- A write of the same field again is the later write. -/
@[simp] theorem State.setBus_setBus (s : State) (b c : Bus) : (s.setBus b).setBus c = s.setBus c := rfl
@[simp] theorem State.setP_setP (s : State) (b c : Byte) : (s.setP b).setP c = s.setP c := rfl
@[simp] theorem State.setSP_setSP (s : State) (b c : Byte) : (s.setSP b).setSP c = s.setSP c := rfl
@[simp] theorem State.setPC_setPC (s : State) (b c : Word) : (s.setPC b).setPC c = s.setPC c := rfl
@[simp] theorem State.setClock_setClock (s : State) (b c : Clock) : (s.setClock b).setClock c = s.setClock c := rfl

end Sys2Proof.Machine
end

