-- ==== Sys2Proof/Laws/Clock.lean ====
section
/-! SUPPORT. What the clock's operations do to the count, the flag and the waiters. -/

namespace Sys2Proof.Machine

@[simp] theorem Clock.start_ticks (c : Clock) : c.start.ticks = c.ticks := rfl
@[simp] theorem Clock.start_running (c : Clock) : c.start.running = true := rfl
@[simp] theorem Clock.start_waiters (c : Clock) : c.start.waiters = c.waiters := rfl
@[simp] theorem Clock.start_released (c : Clock) : c.start.released = c.released := rfl

@[simp] theorem Clock.stop_ticks (c : Clock) : c.stop.ticks = c.ticks := by
  unfold Clock.stop
  repeat' split
  all_goals rfl
@[simp] theorem Clock.stop_running (c : Clock) : c.stop.running = false := by
  unfold Clock.stop
  repeat' split
  all_goals simp_all

/-- Stopping a stopped clock is a no-op. -/
theorem Clock.stop_of_stopped {c : Clock} (h : c.running = false) : c.stop = c := by simp [Clock.stop, h]

/-- A stopped clock does not tick. -/
theorem Clock.tick_of_stopped {c : Clock} (h : c.running = false) : c.tick = c := by simp [Clock.tick, h]

theorem Clock.tick_ticks_of_running {c : Clock} (h : c.running = true) : c.tick.ticks = c.ticks + 1 := by
  simp [Clock.tick, h]

@[simp] theorem Clock.tick_running (c : Clock) : c.tick.running = c.running := by unfold Clock.tick; split <;> rfl

@[simp] theorem Clock.tickTimes_running (n : Nat) (c : Clock) : (c.tickTimes n).running = c.running := by
  induction n generalizing c with
  | zero => rfl
  | succ n ih => simp [Clock.tickTimes, ih]

/-- A stopped clock stays as it is. -/
theorem Clock.tickTimes_of_stopped {c : Clock} (n : Nat) (h : c.running = false) : c.tickTimes n = c := by
  induction n with
  | zero => rfl
  | succ n ih => rw [Clock.tickTimes, Clock.tick_of_stopped h, ih]

/-- A running clock advances by the number of the producer's steps. -/
theorem Clock.tickTimes_ticks {c : Clock} (n : Nat) (h : c.running = true) :
    (c.tickTimes n).ticks = c.ticks + n := by
  induction n generalizing c with
  | zero => rfl
  | succ n ih =>
    rw [Clock.tickTimes, ih (by simp [h]), Clock.tick_ticks_of_running h]
    omega

@[simp] theorem Clock.register_ticks (c : Clock) (w : Caller) (r : ClockRef) (t : Nat) :
    (c.register w r t).ticks = c.ticks := rfl
@[simp] theorem Clock.register_running (c : Clock) (w : Caller) (r : ClockRef) (t : Nat) :
    (c.register w r t).running = c.running := rfl
@[simp] theorem Clock.dropReleased_ticks (c : Clock) (w : Caller) : (c.dropReleased w).ticks = c.ticks := rfl
@[simp] theorem Clock.dropReleased_running (c : Clock) (w : Caller) : (c.dropReleased w).running = c.running := rfl
@[simp] theorem Clock.dropReleased_waiters (c : Clock) (w : Caller) : (c.dropReleased w).waiters = c.waiters := rfl

end Sys2Proof.Machine
end

