-- ==== Sys2Proof/Laws/Barrier.lean ====
section
/-! SUPPORT. What registering, resuming and ticking do to the entries of every caller on the clock. -/

namespace Sys2Proof.Machine

theorem Clock.OthersKept.refl (who : Caller) (c : Clock) : c.OthersKept who c := ⟨rfl, rfl⟩

/-- Registering a caller keeps every other caller's entries. -/
theorem Clock.othersKept_register (c : Clock) (who : Caller) (r : ClockRef) (target : Nat) :
    c.OthersKept who (c.register who r target) := by
  simp [Clock.OthersKept, Clock.register]

/-- Taking out the first entry that has a property leaves the entries that have it not. -/
theorem filter_eraseP_not {α : Type} (p : α → Bool) (l : List α) :
    ((l.eraseP p).filter fun x => !p x) = l.filter fun x => !p x := by
  induction l with
  | nil => rfl
  | cons x l ih =>
    cases h : p x
    · rw [List.eraseP_cons_of_neg (by simp [h]), List.filter_cons, List.filter_cons, ih]
    · simp [h]

/-- A caller that resumes leaves every other caller's entries. -/
theorem Clock.othersKept_dropReleased (c : Clock) (who : Caller) : c.OthersKept who (c.dropReleased who) :=
  ⟨rfl, filter_eraseP_not (fun r : Release => r.waiter.caller == who) c.released⟩

/-- One entry goes when a released caller resumes. -/
theorem Clock.dropReleased_length {c : Clock} {who : Caller} (h : c.hasReleased who = true) :
    (c.dropReleased who).released.length + 1 = c.released.length := by
  obtain ⟨r, hr, hp⟩ := List.any_eq_true.mp h
  have := List.length_pos_of_mem hr
  rw [Clock.dropReleased, List.length_eraseP_of_mem hr hp]
  omega

/-- `n` of the producer's steps leave exactly the waiters whose target the count has not reached. -/
theorem Clock.mem_tickTimes_waiters {c : Clock} (n : Nat) (hr : c.running = true)
    (hp : ∀ w ∈ c.waiters, c.ticks < w.target) (w : Waiter) :
    w ∈ (c.tickTimes n).waiters ↔ w ∈ c.waiters ∧ c.ticks + n < w.target := by
  induction n generalizing c with
  | zero => exact ⟨fun h => ⟨h, hp w h⟩, fun h => h.1⟩
  | succ n ih =>
    have ht := Clock.tick_ticks_of_running hr
    have hm : ∀ v, v ∈ c.tick.waiters ↔ v ∈ c.waiters ∧ v.target ≠ c.ticks + 1 := by simp [Clock.tick, hr]
    rw [Clock.tickTimes, ih (by simp [hr]), hm, ht]
    · constructor
      · rintro ⟨⟨h, -⟩, hlt⟩
        exact ⟨h, by omega⟩
      · rintro ⟨h, hlt⟩
        exact ⟨⟨h, by omega⟩, by omega⟩
    · intro v hv
      obtain ⟨h, hne⟩ := (hm v).mp hv
      have := hp v h
      omega

/-- `n` of the producer's steps release exactly the waiters whose target the count has reached. -/
theorem Clock.mem_tickTimes_released {c : Clock} (n : Nat) (hr : c.running = true)
    (hp : ∀ w ∈ c.waiters, c.ticks < w.target) (r : Release) :
    r ∈ (c.tickTimes n).released ↔
      r ∈ c.released ∨ (r.drainedAt = none ∧ r.waiter ∈ c.waiters ∧ r.waiter.target ≤ c.ticks + n) := by
  induction n generalizing c with
  | zero =>
    refine ⟨.inl, ?_⟩
    rintro (h | ⟨-, h, hle⟩)
    · exact h
    · exact absurd (hp _ h) (by omega)
  | succ n ih =>
    have ht := Clock.tick_ticks_of_running hr
    have hm : ∀ v, v ∈ c.tick.waiters ↔ v ∈ c.waiters ∧ v.target ≠ c.ticks + 1 := by simp [Clock.tick, hr]
    have hrel : r ∈ c.tick.released ↔
        r ∈ c.released ∨ (r.drainedAt = none ∧ r.waiter ∈ c.waiters ∧ r.waiter.target = c.ticks + 1) := by
      cases r
      simp [Clock.tick, hr, Waiter.reached]
      grind
    rw [Clock.tickTimes, ih (by simp [hr]), hrel, hm, ht]
    · constructor
      · rintro ((h | ⟨h0, h, he⟩) | ⟨h0, ⟨h, -⟩, hle⟩)
        · exact .inl h
        · exact .inr ⟨h0, h, by omega⟩
        · exact .inr ⟨h0, h, by omega⟩
      · rintro (h | ⟨h0, h, hle⟩)
        · exact .inl (.inl h)
        · by_cases he : r.waiter.target = c.ticks + 1
          · exact .inl (.inr ⟨h0, h, he⟩)
          · exact .inr ⟨h0, ⟨h, he⟩, by omega⟩
    · intro v hv
      obtain ⟨h, hne⟩ := (hm v).mp hv
      have := hp v h
      omega

/-- A caller that resumes leaves every release of another. -/
theorem Clock.mem_dropReleased {c : Clock} {who : Caller} {r : Release} (h : r.waiter.caller ≠ who) :
    r ∈ (c.dropReleased who).released ↔ r ∈ c.released :=
  List.mem_eraseP_of_neg (by simpa using h)

/-- Taking out the first entry that has a property takes one off the count of those that have it. -/
theorem countP_eraseP_add_one {α : Type} {p : α → Bool} {l : List α} (h : l.any p = true) :
    (l.eraseP p).countP p + 1 = l.countP p := by
  induction l with
  | nil => cases h
  | cons x l ih =>
    cases hx : p x
    · simpa [List.eraseP_cons, List.countP_cons, hx] using ih (by simpa [hx] using h)
    · simp [List.eraseP_cons, hx]

/-- A CPU with one entry has none once it has resumed. -/
theorem Clock.cpuEntries_dropReleased {c : Clock} (h : c.cpuEntries ≤ 1) (hr : c.hasReleased .cpu = true) :
    (c.dropReleased .cpu).cpuEntries = 0 := by
  have := countP_eraseP_add_one hr
  simp only [Clock.cpuEntries, Clock.dropReleased] at *
  omega

/-- The producer's steps change the count, the waiters and the released, and nothing else of the clock. -/
theorem Clock.tickTimes_frame (n : Nat) (c : Clock) : c.tickTimes n =
    { c with ticks := (c.tickTimes n).ticks, waiters := (c.tickTimes n).waiters, released := (c.tickTimes n).released } := by
  induction n generalizing c with
  | zero => rfl
  | succ n ih =>
    rw [Clock.tickTimes]
    unfold Clock.tick
    split <;> rw [ih]

end Sys2Proof.Machine
end

