-- ==== Sys2Proof/Laws/Bits.lean ====
section
/-! SUPPORT. The byte-order and extension helpers as numbers: what each answers, and that splitting a word and putting it
together undo each other. -/

namespace Sys2Proof.Machine

@[simp] theorem zext16_toNat (b : Byte) : (zext16 b).toNat = b.toNat := by
  have := b.isLt
  simp [zext16]
  omega

theorem hi_toNat (w : Word) : (hi w).toNat = w.toNat / 256 := by
  have := w.isLt
  simp [hi, Nat.shiftRight_eq_div_pow]
  omega

theorem lo_toNat (w : Word) : (lo w).toNat = w.toNat % 256 := by simp [lo]

/-- The word of two bytes, the low one first. -/
theorem w16_toNat (l h : Byte) : (w16 l h).toNat = l.toNat + 256 * h.toNat := by
  have hl := l.isLt
  have hh := h.isLt
  have e : (zext16 h <<< 8).toNat = h.toNat <<< 8 := by
    rw [BitVec.toNat_shiftLeft, zext16_toNat, Nat.shiftLeft_eq]
    omega
  rw [w16, BitVec.toNat_or, zext16_toNat, e, Nat.or_comm, ← Nat.shiftLeft_add_eq_or_of_lt hl, Nat.shiftLeft_eq]
  omega

@[simp] theorem w16_lo_hi (w : Word) : w16 (lo w) (hi w) = w := by
  apply BitVec.eq_of_toNat_eq
  rw [w16_toNat, lo_toNat, hi_toNat]
  omega

@[simp] theorem lo_w16 (l h : Byte) : lo (w16 l h) = l := by
  apply BitVec.eq_of_toNat_eq
  have := l.isLt
  rw [lo_toNat, w16_toNat]
  omega

@[simp] theorem hi_w16 (l h : Byte) : hi (w16 l h) = h := by
  apply BitVec.eq_of_toNat_eq
  have := l.isLt
  rw [hi_toNat, w16_toNat]
  omega

/-- A branch offset from 0x80 on is negative. -/
theorem sext16_toNat (b : Byte) : (sext16 b).toNat = if b.toNat < 128 then b.toNat else b.toNat + 65280 := by
  revert b; decide

/-- The pointer's high byte is read from the start of the page when its low byte is 0xFF. -/
theorem pageWrapNext_toNat (w : Word) :
    (pageWrapNext w).toNat = if w.toNat % 256 = 255 then w.toNat - 255 else w.toNat + 1 := by
  have e : pageWrapNext w = w16 (lo w + 1#8) (hi w) := by
    rw [pageWrapNext, w16, BitVec.or_comm]
    congr 1
    apply BitVec.eq_of_getLsbD_eq
    intro i h16
    have hm : (0xFF00#16).getLsbD i = decide (8 ≤ i) := by interval_cases i <;> rfl
    rw [BitVec.getLsbD_and, hm]
    simp only [zext16, Sys2Proof.Machine.hi, BitVec.getLsbD_shiftLeft, BitVec.getLsbD_setWidth, BitVec.getLsbD_extractLsb']
    by_cases h : i < 8
    · simp [h]
    · have : 8 + (i - 8) = i := by omega
      have h8 : 8 ≤ i := by omega
      have h3 : i - 8 < 8 := by omega
      simp [this, h, h8, h16, h3, show i - 8 < 16 by omega]
  rw [e, w16_toNat, BitVec.toNat_add, lo_toNat, hi_toNat]
  simp
  split <;> omega

end Sys2Proof.Machine
end

