-- ==== Sys2Proof/Laws/Memory.lean ====
section
/-! SUPPORT. Reading after writing one byte of RAM, and the canonical form that every memory operation keeps. -/

namespace Sys2Proof.Machine

@[simp] theorem Memory.read_nil (a : Nat) : Memory.read [] a = Config.unwritten := rfl

theorem Memory.read_cons (k : Nat) (v : Byte) (m : Memory) (a : Nat) :
    Memory.read ((k, v) :: m) a = if k = a then v else Memory.read m a := rfl

theorem Memory.read_insert (m : Memory) (a b : Nat) (v : Byte) :
    (m.insert a v).read b = if b = a then v else m.read b := by
  induction m with
  | nil => simp only [Memory.insert, Memory.read_cons]; grind
  | cons c m ih =>
    obtain ⟨k, w⟩ := c
    simp only [Memory.insert]
    split
    · simp only [Memory.read_cons]; grind
    · split
      · simp only [Memory.read_cons]; grind
      · simp only [Memory.read_cons, ih]; grind

theorem Memory.read_erase (m : Memory) (a b : Nat) :
    (m.erase a).read b = if b = a then Config.unwritten else m.read b := by
  induction m with
  | nil => simp [Memory.erase]
  | cons c m ih =>
    obtain ⟨k, w⟩ := c
    simp only [Memory.erase]
    split
    · simp only [Memory.read_cons, ih]; grind
    · simp only [Memory.read_cons, ih]; grind

/-- Everything a write does to what memory reads as. -/
theorem Memory.read_write (m : Memory) (a b : Nat) (v : Byte) :
    (m.write a v).read b = if b = a then v else m.read b := by
  unfold Memory.write
  split
  · rename_i h; rw [Memory.read_erase, h]
  · exact Memory.read_insert m a b v

@[simp] theorem Memory.read_write_same (m : Memory) (a : Nat) (v : Byte) : (m.write a v).read a = v := by
  simp [Memory.read_write]

theorem Memory.read_write_other (m : Memory) {a b : Nat} (v : Byte) (h : b ≠ a) : (m.write a v).read b = m.read b := by
  simp [Memory.read_write, h]

theorem Memory.wfFrom_mono {m : Memory} {i j : Nat} (h : i ≤ j) (hm : m.wfFrom j = true) : m.wfFrom i = true := by
  cases m with
  | nil => rfl
  | cons c m =>
    obtain ⟨k, w⟩ := c
    simp only [Memory.wfFrom, Bool.and_eq_true, decide_eq_true_eq] at hm ⊢
    exact ⟨⟨⟨by omega, hm.1.1.2⟩, hm.1.2⟩, hm.2⟩

theorem Memory.wfFrom_insert {m : Memory} {i a : Nat} {v : Byte} (hi : i ≤ a) (ha : a < 0x10000)
    (hv : v ≠ Config.unwritten) (hm : m.wfFrom i = true) : (m.insert a v).wfFrom i = true := by
  induction m generalizing i with
  | nil => simp [Memory.insert, Memory.wfFrom, hi, ha, hv]
  | cons c m ih =>
    obtain ⟨k, w⟩ := c
    simp only [Memory.wfFrom, Bool.and_eq_true, decide_eq_true_eq] at hm
    obtain ⟨⟨⟨h1, h2⟩, h3⟩, h4⟩ := hm
    simp only [Memory.insert]
    split
    · simp only [Memory.wfFrom, Bool.and_eq_true, decide_eq_true_eq]
      exact ⟨⟨⟨hi, ha⟩, hv⟩, ⟨⟨by omega, h2⟩, h3⟩, h4⟩
    · split
      · subst_vars
        simp only [Memory.wfFrom, Bool.and_eq_true, decide_eq_true_eq]
        exact ⟨⟨⟨hi, ha⟩, hv⟩, h4⟩
      · simp only [Memory.wfFrom, Bool.and_eq_true, decide_eq_true_eq]
        exact ⟨⟨⟨h1, h2⟩, h3⟩, ih (by omega) h4⟩

theorem Memory.wfFrom_erase {m : Memory} {i : Nat} (a : Nat) (hm : m.wfFrom i = true) :
    (m.erase a).wfFrom i = true := by
  induction m generalizing i with
  | nil => rfl
  | cons c m ih =>
    obtain ⟨k, w⟩ := c
    simp only [Memory.wfFrom, Bool.and_eq_true, decide_eq_true_eq] at hm
    obtain ⟨⟨⟨h1, h2⟩, h3⟩, h4⟩ := hm
    simp only [Memory.erase]
    split
    · exact Memory.wfFrom_mono (by omega) (ih h4)
    · simp only [Memory.wfFrom, Bool.and_eq_true, decide_eq_true_eq]
      exact ⟨⟨⟨h1, h2⟩, h3⟩, ih h4⟩

/-- A write inside the address space keeps the canonical form. -/
theorem Memory.wf_write {m : Memory} {a : Nat} (v : Byte) (ha : a < 0x10000) (hm : m.wf = true) :
    (m.write a v).wf = true := by
  unfold Memory.write
  split
  · exact Memory.wfFrom_erase a hm
  · rename_i h; exact Memory.wfFrom_insert (Nat.zero_le a) ha h hm

theorem Memory.wf_load {m : Memory} (addr : Word) (bytes : List Byte) (hm : m.wf = true) :
    (m.load addr bytes).wf = true := by
  induction bytes generalizing m addr with
  | nil => exact hm
  | cons b bs ih => exact ih _ (Memory.wf_write b addr.isLt hm)

/-- A store through the bus keeps the canonical form. -/
theorem Bus.stored_wf {b : Bus} (addr : Word) (v : Byte) (hm : b.mem.wf = true) : (b.stored addr v).wf = true := by
  unfold Bus.stored
  split
  · exact hm
  · exact Memory.wf_write v addr.isLt hm

/-- The bus's own reset keeps the canonical form if the image it leaves has it. -/
theorem Bus.afterBusReset_wf {b : Bus} (hm : b.mem.wf = true) (hi : ∀ m, b.onReset = .image m → m.wf = true) :
    b.afterBusReset.mem.wf = true := by
  unfold Bus.afterBusReset
  cases h : b.onReset with
  | keep => exact hm
  | image m => exact hi m h

theorem State.reset_memory_wf : State.reset.bus.mem.wf = true := rfl

end Sys2Proof.Machine
end

