-- ==== Sys2Proof/Laws/Bus.lean ====
section
/-! SUPPORT. What a bus transaction does to each part of the bus. -/

namespace Sys2Proof.Machine

@[simp] theorem Bus.afterRead_mem (b : Bus) (a : Word) : (b.afterRead a).mem = b.mem := rfl
@[simp] theorem Bus.afterRead_devices (b : Bus) (a : Word) : (b.afterRead a).devices = b.devices := rfl
@[simp] theorem Bus.afterRead_onReset (b : Bus) (a : Word) : (b.afterRead a).onReset = b.onReset := rfl
@[simp] theorem Bus.afterRead_draws (b : Bus) (a : Word) : (b.afterRead a).draws = b.drawn a := rfl
@[simp] theorem Bus.afterRead_history (b : Bus) (a : Word) :
    (b.afterRead a).history = .read a (b.value a) :: b.history := rfl
@[simp] theorem Bus.afterRead_isDevice (b : Bus) (a c : Word) : (b.afterRead a).isDevice c = b.isDevice c := rfl
@[simp] theorem Bus.afterRead_peek (b : Bus) (a c : Word) : (b.afterRead a).peek c = b.peek c := rfl

@[simp] theorem Bus.afterWrite_mem (b : Bus) (a : Word) (v : Byte) : (b.afterWrite a v).mem = b.stored a v := rfl
@[simp] theorem Bus.afterWrite_devices (b : Bus) (a : Word) (v : Byte) : (b.afterWrite a v).devices = b.devices := rfl
@[simp] theorem Bus.afterWrite_onReset (b : Bus) (a : Word) (v : Byte) : (b.afterWrite a v).onReset = b.onReset := rfl
@[simp] theorem Bus.afterWrite_draws (b : Bus) (a : Word) (v : Byte) : (b.afterWrite a v).draws = b.draws := rfl
@[simp] theorem Bus.afterWrite_history (b : Bus) (a : Word) (v : Byte) :
    (b.afterWrite a v).history = .write a v :: b.history := rfl
@[simp] theorem Bus.afterWrite_isDevice (b : Bus) (a c : Word) (v : Byte) :
    (b.afterWrite a v).isDevice c = b.isDevice c := rfl

@[simp] theorem Bus.afterOtherRead_mem (b : Bus) (a : Word) : (b.afterOtherRead a).mem = b.mem := rfl
@[simp] theorem Bus.afterOtherRead_devices (b : Bus) (a : Word) : (b.afterOtherRead a).devices = b.devices := rfl
@[simp] theorem Bus.afterOtherRead_onReset (b : Bus) (a : Word) : (b.afterOtherRead a).onReset = b.onReset := rfl
@[simp] theorem Bus.afterOtherRead_draws (b : Bus) (a : Word) : (b.afterOtherRead a).draws = b.drawn a := rfl
@[simp] theorem Bus.afterOtherRead_history (b : Bus) (a : Word) :
    (b.afterOtherRead a).history = .otherRead a (b.value a) :: b.history := rfl

@[simp] theorem Bus.afterOtherWrite_mem (b : Bus) (a : Word) (v : Byte) : (b.afterOtherWrite a v).mem = b.stored a v := rfl
@[simp] theorem Bus.afterOtherWrite_devices (b : Bus) (a : Word) (v : Byte) :
    (b.afterOtherWrite a v).devices = b.devices := rfl
@[simp] theorem Bus.afterOtherWrite_onReset (b : Bus) (a : Word) (v : Byte) :
    (b.afterOtherWrite a v).onReset = b.onReset := rfl
@[simp] theorem Bus.afterOtherWrite_draws (b : Bus) (a : Word) (v : Byte) : (b.afterOtherWrite a v).draws = b.draws := rfl
@[simp] theorem Bus.afterOtherWrite_history (b : Bus) (a : Word) (v : Byte) :
    (b.afterOtherWrite a v).history = .otherWrite a v :: b.history := rfl

@[simp] theorem Bus.afterBusReset_devices (b : Bus) : b.afterBusReset.devices = b.devices := rfl
@[simp] theorem Bus.afterBusReset_onReset (b : Bus) : b.afterBusReset.onReset = b.onReset := rfl
@[simp] theorem Bus.afterBusReset_draws (b : Bus) : b.afterBusReset.draws = b.draws := rfl
@[simp] theorem Bus.afterBusReset_history (b : Bus) : b.afterBusReset.history = .reset :: b.history := rfl

/-- The bus's own reset that keeps memory leaves it as it was. -/
theorem Bus.afterBusReset_keep {b : Bus} (h : b.onReset = .keep) : b.afterBusReset.mem = b.mem := by
  simp [Bus.afterBusReset, h]

/-- The bus's own reset that leaves an image leaves that image. -/
theorem Bus.afterBusReset_image {b : Bus} {m : Memory} (h : b.onReset = .image m) : b.afterBusReset.mem = m := by
  simp [Bus.afterBusReset, h]

/-- A read of an address bound to RAM answers what RAM holds. -/
theorem Bus.value_of_ram {b : Bus} {a : Word} (h : b.isDevice a = false) : b.value a = b.peek a := by
  simp [Bus.value, h]

/-- Everything a store does to what RAM holds. -/
theorem Bus.peek_afterWrite (b : Bus) (a c : Word) (v : Byte) :
    (b.afterWrite a v).peek c = if c = a ∧ b.isDevice a = false then v else b.peek c := by
  unfold Bus.peek
  rw [Bus.afterWrite_mem]
  unfold Bus.stored
  by_cases hd : b.isDevice a = true
  · simp [hd]
  · simp [Memory.read_write, BitVec.toNat_inj, Bool.eq_false_iff.mpr hd]

theorem Bus.peek_afterWrite_same {b : Bus} {a : Word} (v : Byte) (h : b.isDevice a = false) :
    (b.afterWrite a v).peek a = v := by
  simp [Bus.peek_afterWrite, h]

theorem Bus.peek_afterWrite_other (b : Bus) {a c : Word} (v : Byte) (h : c ≠ a) :
    (b.afterWrite a v).peek c = b.peek c := by
  simp [Bus.peek_afterWrite, h]

/-- Every stack access is to an address in 0x0100 to 0x01FF. -/
theorem stackAddr_toNat (p : Byte) : (stackAddr p).toNat = 0x100 + p.toNat := by
  revert p; decide

/-- Two different stack pointer values name different stack bytes. -/
theorem stackAddr_inj {p q : Byte} : stackAddr p = stackAddr q ↔ p = q := by
  constructor
  · intro h
    have := congrArg BitVec.toNat h
    rw [stackAddr_toNat, stackAddr_toNat] at this
    exact BitVec.eq_of_toNat_eq (by omega)
  · rintro rfl; rfl

end Sys2Proof.Machine
end

