-- ==== Sys2Proof/Laws/Decode.lean ====
section
/-! SUPPORT. The decoder against the lengths and the unmapped opcodes that `WellFormed.lean` transcribes apart from it. -/

namespace Sys2Proof

/-- The number of bytes of an instruction form. -/
def OpForm.length : OpForm → Nat
  | .alone _ => 1
  | .byte _ => 2
  | .word _ => 3

/-- The decoder gives every opcode byte the length the spec's lists give it, and none to an unmapped one. -/
theorem decodeOpcode_length (op : Byte) : (decodeOpcode op).map OpForm.length = instructionLength op := by
  revert op; decide +kernel

end Sys2Proof
end

