-- ==== Sys2Proof/Laws/Flags.lean ====
section
/-! SUPPORT. Writing one flag of P and reading any flag back. -/

namespace Sys2Proof.Machine

theorem Flag.index_lt (f : Flag) : f.index < 8 := by cases f <;> decide

theorem Flag.index_inj {f g : Flag} : f.index = g.index ↔ f = g := by
  cases f <;> cases g <;> simp [Flag.index]

/-- The mask of one flag has that flag's bit alone. -/
theorem getLsbD_flagMask (f g : Flag) : (1#8 <<< g.index).getLsbD f.index = decide (f = g) := by
  have hf := f.index_lt
  rw [BitVec.getLsbD_shiftLeft, BitVec.getLsbD_one, Bool.eq_iff_iff]
  simp only [Bool.and_eq_true, decide_eq_true_eq, Bool.not_eq_true', decide_eq_false_iff_not, ← Flag.index_inj]
  omega

/-- Everything a flag write does to the flags. -/
@[simp] theorem getFlag_setFlag (f g : Flag) (b : Bool) (p : Byte) :
    getFlag f (setFlag g b p) = if f = g then b else getFlag f p := by
  have hf := f.index_lt
  unfold getFlag setFlag
  cases b
  · rw [if_neg Bool.false_ne_true, BitVec.getLsbD_and, BitVec.getLsbD_not, getLsbD_flagMask]
    by_cases h : f = g <;> simp [h, hf]
  · rw [if_pos rfl, BitVec.getLsbD_or, getLsbD_flagMask]
    by_cases h : f = g <;> simp [h]

/-- Two status bytes with the same flags are the same byte. -/
theorem status_ext {p q : Byte} (h : ∀ f, getFlag f p = getFlag f q) : p = q := by
  apply BitVec.eq_of_getLsbD_eq
  intro i hi
  have hc := h .c; have hz := h .z; have hi' := h .i; have hd := h .d
  have hb := h .b; have hu := h .u; have hv := h .v; have hn := h .n
  simp only [getFlag, Flag.index] at *
  have : i = 0 ∨ i = 1 ∨ i = 2 ∨ i = 3 ∨ i = 4 ∨ i = 5 ∨ i = 6 ∨ i = 7 := by omega
  rcases this with rfl | rfl | rfl | rfl | rfl | rfl | rfl | rfl <;> assumption

/-- The pushed copy of P has B set and every other bit as stored. -/
theorem getFlag_pushedStatus (f : Flag) (p : Byte) :
    getFlag f (pushedStatus p) = if f = .b then true else getFlag f p := by
  revert p; cases f <;> decide

end Sys2Proof.Machine
end

