-- ==== Sys2Proof/Laws/HostOps.lean ====
section
/-! SUPPORT. What the host's `new` takes from the bus and the clock it is given, what it answers, and what the CPU does in its
turn, listed or by the default schedule. -/

namespace Sys2Proof.Machine

@[simp] theorem GivenBus.pick_history (g : GivenBus) (b : Bus) : (g.pick b).history = b.history := by cases g <;> rfl
@[simp] theorem GivenBus.pick_draws (g : GivenBus) (b : Bus) : (g.pick b).draws = b.draws := by cases g <;> rfl
@[simp] theorem GivenBus.pick_same (b : Bus) : GivenBus.same.pick b = b := rfl

@[simp] theorem GivenClock.pick_returns (g : GivenClock) (c : Clock) : (g.pick c).returns = c.returns := by cases g <;> rfl
@[simp] theorem GivenClock.pick_draws (g : GivenClock) (c : Clock) : (g.pick c).draws = c.draws := by cases g <;> rfl
@[simp] theorem GivenClock.pick_same (c : Clock) : GivenClock.same.pick c = c := rfl

/-- A new CPU's bus is sound if the one it had and a given one are. -/
theorem GivenBus.pick_sound {g : GivenBus} {b : Bus} (hb : b.Sound) (hg : ∀ n, g = .other n → n.Sound) :
    (g.pick b).Sound := by
  cases g with
  | same => exact hb
  | other n => exact hg n rfl

/-- A new CPU's clock is sound if the one it had and a given one are. -/
theorem GivenClock.pick_sound {g : GivenClock} {c : Clock} (hc : c.Sound) (hg : ∀ n, g = .other n → n.Sound) :
    (g.pick c).Sound := by
  cases g with
  | same => exact hc
  | other n => exact hg n rfl

/-- The CPU has no entry on a sound clock. -/
theorem Clock.Sound.cpuEntries {c : Clock} (h : c.Sound) : c.cpuEntries = 0 := by
  have hw : c.waiters.countP (fun w => w.caller == .cpu) = 0 := by
    rw [List.countP_eq_zero]
    intro w hm
    simpa using (h.1 w hm).1
  have hr : c.released.countP (fun r => r.waiter.caller == .cpu) = 0 := by
    rw [List.countP_eq_zero]
    intro r hm
    simpa using (h.2 r hm).1
  rw [Clock.cpuEntries, hw, hr]

/-- A drained or a reached waiter on a divider gets the quotient of the count where it resumes (R180). -/
@[simp] theorem Clock.awaitCount_divider (c : Clock) {w : Waiter} {d : Nat} (o : Option Nat) (h : w.clock = .divider d) :
    c.awaitCount w o = c.ticks / d := by
  simp [Clock.awaitCount, h]

/-- A drained waiter on the master gets the count at the stop (R183). -/
theorem Clock.awaitCount_drained (c : Clock) {w : Waiter} (n : Nat) (h : w.clock = .master) :
    c.awaitCount w (some n) = n := by
  simp [Clock.awaitCount, h]

/-- In the CPU's turn a Ready CPU executes an instruction, with its own listed move, if there is one, taken off the list. -/
theorem step_of_cpuTurn {s : State} (hp : s.phase = .ready) (h : s.cpuTurn) :
    step s = instructionStep (s.setAgenda s.agenda.tail) := by
  rcases h with h | ⟨rest, h⟩
  · have e : s.setAgenda s.agenda.tail = s := by
      cases s
      simp_all [State.setAgenda]
    rw [e]
    simp [step, machineStep, h, defaultStep, hp]
  · simp [step, machineStep, h, perform, cpuStep, hp]

end Sys2Proof.Machine
end

