-- ==== Sys2Proof/Laws/Ops.lean ====
section
/-! SUPPORT. For each shared operation, everything it does: the registers and the bus it leaves, written out. -/

namespace Sys2Proof.Machine

@[simp] theorem busRead_fst (a : Word) (s : State) : (busRead a s).1 = s.bus.value a := rfl
@[simp] theorem busRead_snd (a : Word) (s : State) : (busRead a s).2 = s.setBus (s.bus.afterRead a) := rfl

theorem busWrite_eq (a : Word) (v : Byte) (s : State) : busWrite a v s = s.setBus (s.bus.afterWrite a v) := rfl

/-- Two reads: the word, and the bus after both. -/
@[simp] theorem readWord_fst (l h : Word) (s : State) :
    (readWord l h s).1 = w16 (s.bus.value l) ((s.bus.afterRead l).value h) := rfl
@[simp] theorem readWord_snd (l h : Word) (s : State) :
    (readWord l h s).2 = s.setBus ((s.bus.afterRead l).afterRead h) := rfl

/-- `fetchPC` answers the byte at PC and moves PC past it. -/
@[simp] theorem fetchPC_fst (s : State) : (fetchPC s).1 = s.bus.value s.pc := rfl
@[simp] theorem fetchPC_snd (s : State) :
    (fetchPC s).2 = (s.setBus (s.bus.afterRead s.pc)).setPC (s.pc + 1#16) := rfl

/-- `push` stores one byte and moves SP down. -/
theorem push_eq (v : Byte) (s : State) :
    push v s = (s.setBus (s.bus.afterWrite (stackAddr s.sp) v)).setSP (s.sp - 1#8) := rfl

/-- `pull` moves SP up and reads one byte. -/
@[simp] theorem pull_fst (s : State) : (pull s).1 = s.bus.value (stackAddr (s.sp + 1#8)) := rfl
@[simp] theorem pull_snd (s : State) :
    (pull s).2 = (s.setSP (s.sp + 1#8)).setBus (s.bus.afterRead (stackAddr (s.sp + 1#8))) := rfl

/-- `push16` stores the high byte at SP and the low byte below it, and moves SP down twice. -/
theorem push16_eq (v : Word) (s : State) :
    push16 v s =
      (s.setBus ((s.bus.afterWrite (stackAddr s.sp) (hi v)).afterWrite (stackAddr (s.sp - 1#8)) (lo v))).setSP
        (s.sp - 1#8 - 1#8) := rfl

/-- `pull16` reads the low byte just above SP and the high byte above that, and moves SP up twice. -/
theorem pull16_fst (s : State) :
    (pull16 s).1 = w16 (s.bus.value (stackAddr (s.sp + 1#8)))
      ((s.bus.afterRead (stackAddr (s.sp + 1#8))).value (stackAddr (s.sp + 1#8 + 1#8))) := rfl
theorem pull16_snd (s : State) :
    (pull16 s).2 = (s.setSP (s.sp + 1#8 + 1#8)).setBus
      ((s.bus.afterRead (stackAddr (s.sp + 1#8))).afterRead (stackAddr (s.sp + 1#8 + 1#8))) := rfl

/-- The bus right after an exception's three pushes. -/
def exceptionPushes (ret : Word) (s : State) : Bus :=
  ((s.bus.afterWrite (stackAddr s.sp) (hi ret)).afterWrite (stackAddr (s.sp - 1#8)) (lo ret)).afterWrite
    (stackAddr (s.sp - 1#8 - 1#8)) (pushedStatus s.p)

/-- Everything that taking an exception does. -/
theorem takeException_eq (ret : Word) (s : State) :
    takeException ret s =
      (((s.setSP (s.sp - 1#8 - 1#8 - 1#8)).setP (setFlag .i true s.p)).setBus
        (((exceptionPushes ret s).afterRead breakVector).afterRead (breakVector + 1#16))).setPC
        (w16 ((exceptionPushes ret s).value breakVector)
          (((exceptionPushes ret s).afterRead breakVector).value (breakVector + 1#16))) := by
  unfold takeException
  simp only [push_eq, push16_eq, readWord_fst, readWord_snd, State.setSP_bus, State.setP_bus, State.setBus_bus,
    State.setSP_sp, State.setSP_p, State.setBus_p, exceptionPushes]
  rfl

/-- Everything that returning from an exception does. -/
theorem returnFromException_eq (s : State) :
    returnFromException s =
      let b1 := s.bus.afterRead (stackAddr (s.sp + 1#8))
      let b2 := b1.afterRead (stackAddr (s.sp + 1#8 + 1#8))
      (((s.setSP (s.sp + 1#8 + 1#8 + 1#8)).setP (s.bus.value (stackAddr (s.sp + 1#8)))).setBus
        (b2.afterRead (stackAddr (s.sp + 1#8 + 1#8 + 1#8)))).setPC
        (w16 (b1.value (stackAddr (s.sp + 1#8 + 1#8))) (b2.value (stackAddr (s.sp + 1#8 + 1#8 + 1#8)))) := by
  unfold returnFromException
  simp only [pull16_fst, pull16_snd, pull_fst, pull_snd, State.setP_bus, State.setBus_bus,
    State.setSP_sp, State.setBus_sp, State.setP_sp]
  rfl

theorem done_eq (c : Nat) (s : State) : done c s = .next (s.finish c) := rfl

end Sys2Proof.Machine
end

