-- ==== Sys2Proof/Laws/Operands.lean ====
section
/-! SUPPORT. An addressing mode and an operand read touch the bus alone, and leave what RAM holds as it was; each
instruction shape, written out. -/

namespace Sys2Proof.Machine

/-- An addressing mode changes nothing but the bus. -/
theorem locate_state (o : Operand) (s : State) : (locate o s).state = s.setBus (locate o s).state.bus := by
  cases o <;> rfl

/-- An addressing mode stores nothing. -/
@[simp] theorem locate_mem (o : Operand) (s : State) : (locate o s).state.bus.mem = s.bus.mem := by
  cases o <;> rfl

@[simp] theorem locate_devices (o : Operand) (s : State) : (locate o s).state.bus.devices = s.bus.devices := by
  cases o <;> rfl

@[simp] theorem locate_onReset (o : Operand) (s : State) : (locate o s).state.bus.onReset = s.bus.onReset := by
  cases o <;> rfl

@[simp] theorem locate_peek (o : Operand) (s : State) (a : Word) :
    (locate o s).state.bus.peek a = s.bus.peek a := by
  cases o <;> rfl

@[simp] theorem locate_isDevice (o : Operand) (s : State) (a : Word) :
    (locate o s).state.bus.isDevice a = s.bus.isDevice a := by
  cases o <;> rfl

@[simp] theorem locate_p (o : Operand) (s : State) : (locate o s).state.p = s.p := by cases o <;> rfl

@[simp] theorem locate_pc (o : Operand) (s : State) : (locate o s).state.pc = s.pc := by cases o <;> rfl

@[simp] theorem locate_cpuTicks (o : Operand) (s : State) : (locate o s).state.cpuTicks = s.cpuTicks := by
  cases o <;> rfl

/-- Reading an operand changes nothing but the bus. -/
theorem load_state (o : Operand) (s : State) : (load o s).state = s.setBus (load o s).state.bus := by
  cases o <;> rfl

/-- Reading an operand stores nothing. -/
@[simp] theorem load_mem (o : Operand) (s : State) : (load o s).state.bus.mem = s.bus.mem := by
  cases o <;> rfl

@[simp] theorem load_devices (o : Operand) (s : State) : (load o s).state.bus.devices = s.bus.devices := by
  cases o <;> rfl

@[simp] theorem load_onReset (o : Operand) (s : State) : (load o s).state.bus.onReset = s.bus.onReset := by
  cases o <;> rfl

@[simp] theorem load_peek (o : Operand) (s : State) (a : Word) : (load o s).state.bus.peek a = s.bus.peek a := by
  cases o <;> rfl

/-- The page-cross verdict of a read is its addressing mode's. -/
@[simp] theorem load_crossed (o : Operand) (s : State) : (load o s).crossed = (locate o s).crossed := by
  cases o <;> rfl

/-- An operand in memory is the byte at the effective address, by one read after the mode's own reads. -/
theorem load_of_memory {o : Operand} (s : State) (h : ∀ v, o ≠ .immediate v) :
    (load o s).value = (locate o s).state.bus.value (locate o s).addr ∧
      (load o s).state = (locate o s).state.setBus ((locate o s).state.bus.afterRead (locate o s).addr) := by
  cases o with
  | immediate v => exact absurd rfl (h v)
  | _ => exact ⟨rfl, rfl⟩

theorem readInstr_eq (base : Nat) (o : Operand) (f : Byte → State → State) (s : State) :
    readInstr base o f s =
      .next ((f (load o s).value (load o s).state).finish (base + pageCycle (locate o s).crossed)) := by
  simp only [readInstr, done, load_crossed]

theorem writeInstr_eq (base : Nat) (o : Operand) (v : Byte) (s : State) :
    writeInstr base o v s =
      .next ((s.setBus ((locate o s).state.bus.afterWrite (locate o s).addr v)).finish base) := by
  cases o <;> rfl

/-- A read-modify-write: the bus sees one read and one write at the effective address after the mode's own reads. -/
theorem modifyInstr_eq (base : Nat) (o : Operand) (f : Byte → Byte → Byte × Byte) (s : State) :
    modifyInstr base o f s =
      let ea := locate o s
      let r := f (ea.state.bus.value ea.addr) s.p
      .next (((s.setBus ((ea.state.bus.afterRead ea.addr).afterWrite ea.addr r.1)).setP r.2).finish base) := by
  cases o <;> rfl

theorem accumulatorInstr_eq (f : Byte → Byte → Byte × Byte) (s : State) :
    accumulatorInstr f s = .next (((s.setA (f s.a s.p).1).setP (f s.a s.p).2).finish 2) := rfl

theorem jumpInstr_eq (base : Nat) (o : Operand) (s : State) :
    jumpInstr base o s = .next (((s.setBus (locate o s).state.bus).setPC (locate o s).addr).finish base) := by
  cases o <;> rfl

theorem branchInstr_eq (taken : Bool) (off : Byte) (s : State) :
    branchInstr taken off s =
      .next ((s.setPC (if taken then s.pc + sext16 off else s.pc)).finish
        (branchCycles taken (s.pc + sext16 off) s.pc)) := by
  cases taken <;> rfl

end Sys2Proof.Machine
end

