-- ==== Sys2Proof/Laws/PerInstr.lean ====
section
/-! SUPPORT. One lemma for each instruction: its encoding is well formed and has the length the opcode table gives it. -/

namespace Sys2Proof.Laws.Encoding

/-- The encoder writes exactly one well-formed instruction, as long as its addressing mode says (`30_encoding.md` R61). -/
def Statement (i : Instr) : Prop :=
  i.wellFormed = true ∧ wellFormedBytes (encode i) = true ∧ (encode i).length = i.length

theorem brk : Statement .brk := ⟨rfl, rfl, rfl⟩
theorem oraIndexedIndirectX (z : Byte) : Statement (.oraIndexedIndirectX z) := ⟨rfl, rfl, rfl⟩
theorem oraZeropage (z : Byte) : Statement (.oraZeropage z) := ⟨rfl, rfl, rfl⟩
theorem aslZeropage (z : Byte) : Statement (.aslZeropage z) := ⟨rfl, rfl, rfl⟩
theorem php : Statement .php := ⟨rfl, rfl, rfl⟩
theorem oraImmediate (value : Byte) : Statement (.oraImmediate value) := ⟨rfl, rfl, rfl⟩
theorem aslAccumulator : Statement .aslAccumulator := ⟨rfl, rfl, rfl⟩
theorem oraAbsolute (addr : Word) : Statement (.oraAbsolute addr) := ⟨rfl, rfl, rfl⟩
theorem aslAbsolute (addr : Word) : Statement (.aslAbsolute addr) := ⟨rfl, rfl, rfl⟩
theorem bpl (offset : Byte) : Statement (.bpl offset) := ⟨rfl, rfl, rfl⟩
theorem oraIndirectIndexedY (z : Byte) : Statement (.oraIndirectIndexedY z) := ⟨rfl, rfl, rfl⟩
theorem oraZeropageX (z : Byte) : Statement (.oraZeropageX z) := ⟨rfl, rfl, rfl⟩
theorem aslZeropageX (z : Byte) : Statement (.aslZeropageX z) := ⟨rfl, rfl, rfl⟩
theorem clc : Statement .clc := ⟨rfl, rfl, rfl⟩
theorem oraAbsoluteY (addr : Word) : Statement (.oraAbsoluteY addr) := ⟨rfl, rfl, rfl⟩
theorem oraAbsoluteX (addr : Word) : Statement (.oraAbsoluteX addr) := ⟨rfl, rfl, rfl⟩
theorem aslAbsoluteX (addr : Word) : Statement (.aslAbsoluteX addr) := ⟨rfl, rfl, rfl⟩
theorem jsr (addr : Word) : Statement (.jsr addr) := ⟨rfl, rfl, rfl⟩
theorem andIndexedIndirectX (z : Byte) : Statement (.andIndexedIndirectX z) := ⟨rfl, rfl, rfl⟩
theorem bitZeropage (z : Byte) : Statement (.bitZeropage z) := ⟨rfl, rfl, rfl⟩
theorem andZeropage (z : Byte) : Statement (.andZeropage z) := ⟨rfl, rfl, rfl⟩
theorem rolZeropage (z : Byte) : Statement (.rolZeropage z) := ⟨rfl, rfl, rfl⟩
theorem plp : Statement .plp := ⟨rfl, rfl, rfl⟩
theorem andImmediate (value : Byte) : Statement (.andImmediate value) := ⟨rfl, rfl, rfl⟩
theorem rolAccumulator : Statement .rolAccumulator := ⟨rfl, rfl, rfl⟩
theorem bitAbsolute (addr : Word) : Statement (.bitAbsolute addr) := ⟨rfl, rfl, rfl⟩
theorem andAbsolute (addr : Word) : Statement (.andAbsolute addr) := ⟨rfl, rfl, rfl⟩
theorem rolAbsolute (addr : Word) : Statement (.rolAbsolute addr) := ⟨rfl, rfl, rfl⟩
theorem bmi (offset : Byte) : Statement (.bmi offset) := ⟨rfl, rfl, rfl⟩
theorem andIndirectIndexedY (z : Byte) : Statement (.andIndirectIndexedY z) := ⟨rfl, rfl, rfl⟩
theorem andZeropageX (z : Byte) : Statement (.andZeropageX z) := ⟨rfl, rfl, rfl⟩
theorem rolZeropageX (z : Byte) : Statement (.rolZeropageX z) := ⟨rfl, rfl, rfl⟩
theorem sec : Statement .sec := ⟨rfl, rfl, rfl⟩
theorem andAbsoluteY (addr : Word) : Statement (.andAbsoluteY addr) := ⟨rfl, rfl, rfl⟩
theorem andAbsoluteX (addr : Word) : Statement (.andAbsoluteX addr) := ⟨rfl, rfl, rfl⟩
theorem rolAbsoluteX (addr : Word) : Statement (.rolAbsoluteX addr) := ⟨rfl, rfl, rfl⟩
theorem rti : Statement .rti := ⟨rfl, rfl, rfl⟩
theorem eorIndexedIndirectX (z : Byte) : Statement (.eorIndexedIndirectX z) := ⟨rfl, rfl, rfl⟩
theorem eorZeropage (z : Byte) : Statement (.eorZeropage z) := ⟨rfl, rfl, rfl⟩
theorem lsrZeropage (z : Byte) : Statement (.lsrZeropage z) := ⟨rfl, rfl, rfl⟩
theorem pha : Statement .pha := ⟨rfl, rfl, rfl⟩
theorem eorImmediate (value : Byte) : Statement (.eorImmediate value) := ⟨rfl, rfl, rfl⟩
theorem lsrAccumulator : Statement .lsrAccumulator := ⟨rfl, rfl, rfl⟩
theorem jmpAbsolute (addr : Word) : Statement (.jmpAbsolute addr) := ⟨rfl, rfl, rfl⟩
theorem eorAbsolute (addr : Word) : Statement (.eorAbsolute addr) := ⟨rfl, rfl, rfl⟩
theorem lsrAbsolute (addr : Word) : Statement (.lsrAbsolute addr) := ⟨rfl, rfl, rfl⟩
theorem bvc (offset : Byte) : Statement (.bvc offset) := ⟨rfl, rfl, rfl⟩
theorem eorIndirectIndexedY (z : Byte) : Statement (.eorIndirectIndexedY z) := ⟨rfl, rfl, rfl⟩
theorem eorZeropageX (z : Byte) : Statement (.eorZeropageX z) := ⟨rfl, rfl, rfl⟩
theorem lsrZeropageX (z : Byte) : Statement (.lsrZeropageX z) := ⟨rfl, rfl, rfl⟩
theorem cli : Statement .cli := ⟨rfl, rfl, rfl⟩
theorem eorAbsoluteY (addr : Word) : Statement (.eorAbsoluteY addr) := ⟨rfl, rfl, rfl⟩
theorem eorAbsoluteX (addr : Word) : Statement (.eorAbsoluteX addr) := ⟨rfl, rfl, rfl⟩
theorem lsrAbsoluteX (addr : Word) : Statement (.lsrAbsoluteX addr) := ⟨rfl, rfl, rfl⟩
theorem rts : Statement .rts := ⟨rfl, rfl, rfl⟩
theorem adcIndexedIndirectX (z : Byte) : Statement (.adcIndexedIndirectX z) := ⟨rfl, rfl, rfl⟩
theorem adcZeropage (z : Byte) : Statement (.adcZeropage z) := ⟨rfl, rfl, rfl⟩
theorem rorZeropage (z : Byte) : Statement (.rorZeropage z) := ⟨rfl, rfl, rfl⟩
theorem pla : Statement .pla := ⟨rfl, rfl, rfl⟩
theorem adcImmediate (value : Byte) : Statement (.adcImmediate value) := ⟨rfl, rfl, rfl⟩
theorem rorAccumulator : Statement .rorAccumulator := ⟨rfl, rfl, rfl⟩
theorem jmpIndirect (ptr : Word) : Statement (.jmpIndirect ptr) := ⟨rfl, rfl, rfl⟩
theorem adcAbsolute (addr : Word) : Statement (.adcAbsolute addr) := ⟨rfl, rfl, rfl⟩
theorem rorAbsolute (addr : Word) : Statement (.rorAbsolute addr) := ⟨rfl, rfl, rfl⟩
theorem bvs (offset : Byte) : Statement (.bvs offset) := ⟨rfl, rfl, rfl⟩
theorem adcIndirectIndexedY (z : Byte) : Statement (.adcIndirectIndexedY z) := ⟨rfl, rfl, rfl⟩
theorem adcZeropageX (z : Byte) : Statement (.adcZeropageX z) := ⟨rfl, rfl, rfl⟩
theorem rorZeropageX (z : Byte) : Statement (.rorZeropageX z) := ⟨rfl, rfl, rfl⟩
theorem sei : Statement .sei := ⟨rfl, rfl, rfl⟩
theorem adcAbsoluteY (addr : Word) : Statement (.adcAbsoluteY addr) := ⟨rfl, rfl, rfl⟩
theorem adcAbsoluteX (addr : Word) : Statement (.adcAbsoluteX addr) := ⟨rfl, rfl, rfl⟩
theorem rorAbsoluteX (addr : Word) : Statement (.rorAbsoluteX addr) := ⟨rfl, rfl, rfl⟩
theorem staIndexedIndirectX (z : Byte) : Statement (.staIndexedIndirectX z) := ⟨rfl, rfl, rfl⟩
theorem styZeropage (z : Byte) : Statement (.styZeropage z) := ⟨rfl, rfl, rfl⟩
theorem staZeropage (z : Byte) : Statement (.staZeropage z) := ⟨rfl, rfl, rfl⟩
theorem stxZeropage (z : Byte) : Statement (.stxZeropage z) := ⟨rfl, rfl, rfl⟩
theorem dey : Statement .dey := ⟨rfl, rfl, rfl⟩
theorem txa : Statement .txa := ⟨rfl, rfl, rfl⟩
theorem styAbsolute (addr : Word) : Statement (.styAbsolute addr) := ⟨rfl, rfl, rfl⟩
theorem staAbsolute (addr : Word) : Statement (.staAbsolute addr) := ⟨rfl, rfl, rfl⟩
theorem stxAbsolute (addr : Word) : Statement (.stxAbsolute addr) := ⟨rfl, rfl, rfl⟩
theorem bcc (offset : Byte) : Statement (.bcc offset) := ⟨rfl, rfl, rfl⟩
theorem staIndirectIndexedY (z : Byte) : Statement (.staIndirectIndexedY z) := ⟨rfl, rfl, rfl⟩
theorem styZeropageX (z : Byte) : Statement (.styZeropageX z) := ⟨rfl, rfl, rfl⟩
theorem staZeropageX (z : Byte) : Statement (.staZeropageX z) := ⟨rfl, rfl, rfl⟩
theorem stxZeropageY (z : Byte) : Statement (.stxZeropageY z) := ⟨rfl, rfl, rfl⟩
theorem tya : Statement .tya := ⟨rfl, rfl, rfl⟩
theorem staAbsoluteY (addr : Word) : Statement (.staAbsoluteY addr) := ⟨rfl, rfl, rfl⟩
theorem txs : Statement .txs := ⟨rfl, rfl, rfl⟩
theorem staAbsoluteX (addr : Word) : Statement (.staAbsoluteX addr) := ⟨rfl, rfl, rfl⟩
theorem ldyImmediate (value : Byte) : Statement (.ldyImmediate value) := ⟨rfl, rfl, rfl⟩
theorem ldaIndexedIndirectX (z : Byte) : Statement (.ldaIndexedIndirectX z) := ⟨rfl, rfl, rfl⟩
theorem ldxImmediate (value : Byte) : Statement (.ldxImmediate value) := ⟨rfl, rfl, rfl⟩
theorem ldyZeropage (z : Byte) : Statement (.ldyZeropage z) := ⟨rfl, rfl, rfl⟩
theorem ldaZeropage (z : Byte) : Statement (.ldaZeropage z) := ⟨rfl, rfl, rfl⟩
theorem ldxZeropage (z : Byte) : Statement (.ldxZeropage z) := ⟨rfl, rfl, rfl⟩
theorem tay : Statement .tay := ⟨rfl, rfl, rfl⟩
theorem ldaImmediate (value : Byte) : Statement (.ldaImmediate value) := ⟨rfl, rfl, rfl⟩
theorem tax : Statement .tax := ⟨rfl, rfl, rfl⟩
theorem ldyAbsolute (addr : Word) : Statement (.ldyAbsolute addr) := ⟨rfl, rfl, rfl⟩
theorem ldaAbsolute (addr : Word) : Statement (.ldaAbsolute addr) := ⟨rfl, rfl, rfl⟩
theorem ldxAbsolute (addr : Word) : Statement (.ldxAbsolute addr) := ⟨rfl, rfl, rfl⟩
theorem bcs (offset : Byte) : Statement (.bcs offset) := ⟨rfl, rfl, rfl⟩
theorem ldaIndirectIndexedY (z : Byte) : Statement (.ldaIndirectIndexedY z) := ⟨rfl, rfl, rfl⟩
theorem ldyZeropageX (z : Byte) : Statement (.ldyZeropageX z) := ⟨rfl, rfl, rfl⟩
theorem ldaZeropageX (z : Byte) : Statement (.ldaZeropageX z) := ⟨rfl, rfl, rfl⟩
theorem ldxZeropageY (z : Byte) : Statement (.ldxZeropageY z) := ⟨rfl, rfl, rfl⟩
theorem clv : Statement .clv := ⟨rfl, rfl, rfl⟩
theorem ldaAbsoluteY (addr : Word) : Statement (.ldaAbsoluteY addr) := ⟨rfl, rfl, rfl⟩
theorem tsx : Statement .tsx := ⟨rfl, rfl, rfl⟩
theorem ldyAbsoluteX (addr : Word) : Statement (.ldyAbsoluteX addr) := ⟨rfl, rfl, rfl⟩
theorem ldaAbsoluteX (addr : Word) : Statement (.ldaAbsoluteX addr) := ⟨rfl, rfl, rfl⟩
theorem ldxAbsoluteY (addr : Word) : Statement (.ldxAbsoluteY addr) := ⟨rfl, rfl, rfl⟩
theorem cpyImmediate (value : Byte) : Statement (.cpyImmediate value) := ⟨rfl, rfl, rfl⟩
theorem cmpIndexedIndirectX (z : Byte) : Statement (.cmpIndexedIndirectX z) := ⟨rfl, rfl, rfl⟩
theorem cpyZeropage (z : Byte) : Statement (.cpyZeropage z) := ⟨rfl, rfl, rfl⟩
theorem cmpZeropage (z : Byte) : Statement (.cmpZeropage z) := ⟨rfl, rfl, rfl⟩
theorem decZeropage (z : Byte) : Statement (.decZeropage z) := ⟨rfl, rfl, rfl⟩
theorem iny : Statement .iny := ⟨rfl, rfl, rfl⟩
theorem cmpImmediate (value : Byte) : Statement (.cmpImmediate value) := ⟨rfl, rfl, rfl⟩
theorem dex : Statement .dex := ⟨rfl, rfl, rfl⟩
theorem cpyAbsolute (addr : Word) : Statement (.cpyAbsolute addr) := ⟨rfl, rfl, rfl⟩
theorem cmpAbsolute (addr : Word) : Statement (.cmpAbsolute addr) := ⟨rfl, rfl, rfl⟩
theorem decAbsolute (addr : Word) : Statement (.decAbsolute addr) := ⟨rfl, rfl, rfl⟩
theorem bne (offset : Byte) : Statement (.bne offset) := ⟨rfl, rfl, rfl⟩
theorem cmpIndirectIndexedY (z : Byte) : Statement (.cmpIndirectIndexedY z) := ⟨rfl, rfl, rfl⟩
theorem cmpZeropageX (z : Byte) : Statement (.cmpZeropageX z) := ⟨rfl, rfl, rfl⟩
theorem decZeropageX (z : Byte) : Statement (.decZeropageX z) := ⟨rfl, rfl, rfl⟩
theorem cld : Statement .cld := ⟨rfl, rfl, rfl⟩
theorem cmpAbsoluteY (addr : Word) : Statement (.cmpAbsoluteY addr) := ⟨rfl, rfl, rfl⟩
theorem cmpAbsoluteX (addr : Word) : Statement (.cmpAbsoluteX addr) := ⟨rfl, rfl, rfl⟩
theorem decAbsoluteX (addr : Word) : Statement (.decAbsoluteX addr) := ⟨rfl, rfl, rfl⟩
theorem cpxImmediate (value : Byte) : Statement (.cpxImmediate value) := ⟨rfl, rfl, rfl⟩
theorem sbcIndexedIndirectX (z : Byte) : Statement (.sbcIndexedIndirectX z) := ⟨rfl, rfl, rfl⟩
theorem cpxZeropage (z : Byte) : Statement (.cpxZeropage z) := ⟨rfl, rfl, rfl⟩
theorem sbcZeropage (z : Byte) : Statement (.sbcZeropage z) := ⟨rfl, rfl, rfl⟩
theorem incZeropage (z : Byte) : Statement (.incZeropage z) := ⟨rfl, rfl, rfl⟩
theorem inx : Statement .inx := ⟨rfl, rfl, rfl⟩
theorem sbcImmediate (value : Byte) : Statement (.sbcImmediate value) := ⟨rfl, rfl, rfl⟩
theorem nop : Statement .nop := ⟨rfl, rfl, rfl⟩
theorem cpxAbsolute (addr : Word) : Statement (.cpxAbsolute addr) := ⟨rfl, rfl, rfl⟩
theorem sbcAbsolute (addr : Word) : Statement (.sbcAbsolute addr) := ⟨rfl, rfl, rfl⟩
theorem incAbsolute (addr : Word) : Statement (.incAbsolute addr) := ⟨rfl, rfl, rfl⟩
theorem beq (offset : Byte) : Statement (.beq offset) := ⟨rfl, rfl, rfl⟩
theorem sbcIndirectIndexedY (z : Byte) : Statement (.sbcIndirectIndexedY z) := ⟨rfl, rfl, rfl⟩
theorem sbcZeropageX (z : Byte) : Statement (.sbcZeropageX z) := ⟨rfl, rfl, rfl⟩
theorem incZeropageX (z : Byte) : Statement (.incZeropageX z) := ⟨rfl, rfl, rfl⟩
theorem sed : Statement .sed := ⟨rfl, rfl, rfl⟩
theorem sbcAbsoluteY (addr : Word) : Statement (.sbcAbsoluteY addr) := ⟨rfl, rfl, rfl⟩
theorem sbcAbsoluteX (addr : Word) : Statement (.sbcAbsoluteX addr) := ⟨rfl, rfl, rfl⟩
theorem incAbsoluteX (addr : Word) : Statement (.incAbsoluteX addr) := ⟨rfl, rfl, rfl⟩

end Sys2Proof.Laws.Encoding
end

