-- ==== Sys2Proof/Tests/Slice0.lean ====
section
/-! SUPPORT. The model's own tests: well-formedness, a word of every instruction written out from the spec's encoding column,
vectors of `95_test_vectors.md`, each on one step, and a witness for every statement that has hypotheses. -/

namespace Sys2Proof.Tests

open Sys2Proof.Machine

/-! ## Well-formedness -/

/-- An unmapped opcode (R66) is no instruction. -/
theorem test_ill_formed_unmapped : wellFormedBytes [0x02#8] = false := by decide
/-- LDA immediate without its operand byte (R61) is no instruction. -/
theorem test_ill_formed_truncated : wellFormedBytes [0xA9#8] = false := by decide
/-- NOP followed by another byte (R61) is more than one instruction. -/
theorem test_ill_formed_trailing : wellFormedBytes [0xEA#8, 0x00#8] = false := by decide
theorem test_ill_formed_empty : wellFormedBytes [] = false := by decide
theorem test_well_formed_jmp : wellFormedBytes [0x6C#8, 0xFF#8, 0x02#8] = true := by decide
theorem test_instr_well_formed : (Instr.jmpIndirect 0x02FF#16).wellFormed = true := rfl

/-! ## Decoding: words written out bit by bit from the encoding column of the opcode table; operand bytes 0x12, or 0x34 0x12
for a 16-bit operand -/

/-- The bytes decode to exactly one instruction, the one given. -/
def decodesTo (bytes : List Byte) (i : Instr) : Bool :=
  match decode bytes with
  | .ok (j, []) => j == i
  | _ => false

theorem test_decode_loads_stores : (
    [
      ([0b10000001#8, 0x12#8], .staIndexedIndirectX 0x12#8),
      ([0b10000100#8, 0x12#8], .styZeropage 0x12#8),
      ([0b10000101#8, 0x12#8], .staZeropage 0x12#8),
      ([0b10000110#8, 0x12#8], .stxZeropage 0x12#8),
      ([0b10001100#8, 0x34#8, 0x12#8], .styAbsolute 0x1234#16),
      ([0b10001101#8, 0x34#8, 0x12#8], .staAbsolute 0x1234#16),
      ([0b10001110#8, 0x34#8, 0x12#8], .stxAbsolute 0x1234#16),
      ([0b10010001#8, 0x12#8], .staIndirectIndexedY 0x12#8),
      ([0b10010100#8, 0x12#8], .styZeropageX 0x12#8),
      ([0b10010101#8, 0x12#8], .staZeropageX 0x12#8),
      ([0b10010110#8, 0x12#8], .stxZeropageY 0x12#8),
      ([0b10011001#8, 0x34#8, 0x12#8], .staAbsoluteY 0x1234#16),
      ([0b10011101#8, 0x34#8, 0x12#8], .staAbsoluteX 0x1234#16),
      ([0b10100000#8, 0x12#8], .ldyImmediate 0x12#8),
      ([0b10100001#8, 0x12#8], .ldaIndexedIndirectX 0x12#8),
      ([0b10100010#8, 0x12#8], .ldxImmediate 0x12#8),
      ([0b10100100#8, 0x12#8], .ldyZeropage 0x12#8),
      ([0b10100101#8, 0x12#8], .ldaZeropage 0x12#8),
      ([0b10100110#8, 0x12#8], .ldxZeropage 0x12#8),
      ([0b10101001#8, 0x12#8], .ldaImmediate 0x12#8),
      ([0b10101100#8, 0x34#8, 0x12#8], .ldyAbsolute 0x1234#16),
      ([0b10101101#8, 0x34#8, 0x12#8], .ldaAbsolute 0x1234#16),
      ([0b10101110#8, 0x34#8, 0x12#8], .ldxAbsolute 0x1234#16),
      ([0b10110001#8, 0x12#8], .ldaIndirectIndexedY 0x12#8),
      ([0b10110100#8, 0x12#8], .ldyZeropageX 0x12#8),
      ([0b10110101#8, 0x12#8], .ldaZeropageX 0x12#8),
      ([0b10110110#8, 0x12#8], .ldxZeropageY 0x12#8),
      ([0b10111001#8, 0x34#8, 0x12#8], .ldaAbsoluteY 0x1234#16),
      ([0b10111100#8, 0x34#8, 0x12#8], .ldyAbsoluteX 0x1234#16),
      ([0b10111101#8, 0x34#8, 0x12#8], .ldaAbsoluteX 0x1234#16),
      ([0b10111110#8, 0x34#8, 0x12#8], .ldxAbsoluteY 0x1234#16)] : List (List Byte × Instr)).all (fun c => decodesTo c.1 c.2) = true := by decide

theorem test_decode_transfers_stack : (
    [
      ([0b00001000#8], .php),
      ([0b00101000#8], .plp),
      ([0b01001000#8], .pha),
      ([0b01101000#8], .pla),
      ([0b10001010#8], .txa),
      ([0b10011000#8], .tya),
      ([0b10011010#8], .txs),
      ([0b10101000#8], .tay),
      ([0b10101010#8], .tax),
      ([0b10111010#8], .tsx)] : List (List Byte × Instr)).all (fun c => decodesTo c.1 c.2) = true := by decide

theorem test_decode_logic_compare : (
    [
      ([0b00000001#8, 0x12#8], .oraIndexedIndirectX 0x12#8),
      ([0b00000101#8, 0x12#8], .oraZeropage 0x12#8),
      ([0b00001001#8, 0x12#8], .oraImmediate 0x12#8),
      ([0b00001101#8, 0x34#8, 0x12#8], .oraAbsolute 0x1234#16),
      ([0b00010001#8, 0x12#8], .oraIndirectIndexedY 0x12#8),
      ([0b00010101#8, 0x12#8], .oraZeropageX 0x12#8),
      ([0b00011001#8, 0x34#8, 0x12#8], .oraAbsoluteY 0x1234#16),
      ([0b00011101#8, 0x34#8, 0x12#8], .oraAbsoluteX 0x1234#16),
      ([0b00100001#8, 0x12#8], .andIndexedIndirectX 0x12#8),
      ([0b00100100#8, 0x12#8], .bitZeropage 0x12#8),
      ([0b00100101#8, 0x12#8], .andZeropage 0x12#8),
      ([0b00101001#8, 0x12#8], .andImmediate 0x12#8),
      ([0b00101100#8, 0x34#8, 0x12#8], .bitAbsolute 0x1234#16),
      ([0b00101101#8, 0x34#8, 0x12#8], .andAbsolute 0x1234#16),
      ([0b00110001#8, 0x12#8], .andIndirectIndexedY 0x12#8),
      ([0b00110101#8, 0x12#8], .andZeropageX 0x12#8),
      ([0b00111001#8, 0x34#8, 0x12#8], .andAbsoluteY 0x1234#16),
      ([0b00111101#8, 0x34#8, 0x12#8], .andAbsoluteX 0x1234#16),
      ([0b01000001#8, 0x12#8], .eorIndexedIndirectX 0x12#8),
      ([0b01000101#8, 0x12#8], .eorZeropage 0x12#8),
      ([0b01001001#8, 0x12#8], .eorImmediate 0x12#8),
      ([0b01001101#8, 0x34#8, 0x12#8], .eorAbsolute 0x1234#16),
      ([0b01010001#8, 0x12#8], .eorIndirectIndexedY 0x12#8),
      ([0b01010101#8, 0x12#8], .eorZeropageX 0x12#8),
      ([0b01011001#8, 0x34#8, 0x12#8], .eorAbsoluteY 0x1234#16),
      ([0b01011101#8, 0x34#8, 0x12#8], .eorAbsoluteX 0x1234#16),
      ([0b11000000#8, 0x12#8], .cpyImmediate 0x12#8),
      ([0b11000001#8, 0x12#8], .cmpIndexedIndirectX 0x12#8),
      ([0b11000100#8, 0x12#8], .cpyZeropage 0x12#8),
      ([0b11000101#8, 0x12#8], .cmpZeropage 0x12#8),
      ([0b11001001#8, 0x12#8], .cmpImmediate 0x12#8),
      ([0b11001100#8, 0x34#8, 0x12#8], .cpyAbsolute 0x1234#16),
      ([0b11001101#8, 0x34#8, 0x12#8], .cmpAbsolute 0x1234#16),
      ([0b11010001#8, 0x12#8], .cmpIndirectIndexedY 0x12#8),
      ([0b11010101#8, 0x12#8], .cmpZeropageX 0x12#8),
      ([0b11011001#8, 0x34#8, 0x12#8], .cmpAbsoluteY 0x1234#16),
      ([0b11011101#8, 0x34#8, 0x12#8], .cmpAbsoluteX 0x1234#16),
      ([0b11100000#8, 0x12#8], .cpxImmediate 0x12#8),
      ([0b11100100#8, 0x12#8], .cpxZeropage 0x12#8),
      ([0b11101100#8, 0x34#8, 0x12#8], .cpxAbsolute 0x1234#16)] : List (List Byte × Instr)).all (fun c => decodesTo c.1 c.2) = true := by decide

theorem test_decode_add_subtract : (
    [
      ([0b01100001#8, 0x12#8], .adcIndexedIndirectX 0x12#8),
      ([0b01100101#8, 0x12#8], .adcZeropage 0x12#8),
      ([0b01101001#8, 0x12#8], .adcImmediate 0x12#8),
      ([0b01101101#8, 0x34#8, 0x12#8], .adcAbsolute 0x1234#16),
      ([0b01110001#8, 0x12#8], .adcIndirectIndexedY 0x12#8),
      ([0b01110101#8, 0x12#8], .adcZeropageX 0x12#8),
      ([0b01111001#8, 0x34#8, 0x12#8], .adcAbsoluteY 0x1234#16),
      ([0b01111101#8, 0x34#8, 0x12#8], .adcAbsoluteX 0x1234#16),
      ([0b11100001#8, 0x12#8], .sbcIndexedIndirectX 0x12#8),
      ([0b11100101#8, 0x12#8], .sbcZeropage 0x12#8),
      ([0b11101001#8, 0x12#8], .sbcImmediate 0x12#8),
      ([0b11101101#8, 0x34#8, 0x12#8], .sbcAbsolute 0x1234#16),
      ([0b11110001#8, 0x12#8], .sbcIndirectIndexedY 0x12#8),
      ([0b11110101#8, 0x12#8], .sbcZeropageX 0x12#8),
      ([0b11111001#8, 0x34#8, 0x12#8], .sbcAbsoluteY 0x1234#16),
      ([0b11111101#8, 0x34#8, 0x12#8], .sbcAbsoluteX 0x1234#16)] : List (List Byte × Instr)).all (fun c => decodesTo c.1 c.2) = true := by decide

theorem test_decode_increments_shifts : (
    [
      ([0b00000110#8, 0x12#8], .aslZeropage 0x12#8),
      ([0b00001010#8], .aslAccumulator),
      ([0b00001110#8, 0x34#8, 0x12#8], .aslAbsolute 0x1234#16),
      ([0b00010110#8, 0x12#8], .aslZeropageX 0x12#8),
      ([0b00011110#8, 0x34#8, 0x12#8], .aslAbsoluteX 0x1234#16),
      ([0b00100110#8, 0x12#8], .rolZeropage 0x12#8),
      ([0b00101010#8], .rolAccumulator),
      ([0b00101110#8, 0x34#8, 0x12#8], .rolAbsolute 0x1234#16),
      ([0b00110110#8, 0x12#8], .rolZeropageX 0x12#8),
      ([0b00111110#8, 0x34#8, 0x12#8], .rolAbsoluteX 0x1234#16),
      ([0b01000110#8, 0x12#8], .lsrZeropage 0x12#8),
      ([0b01001010#8], .lsrAccumulator),
      ([0b01001110#8, 0x34#8, 0x12#8], .lsrAbsolute 0x1234#16),
      ([0b01010110#8, 0x12#8], .lsrZeropageX 0x12#8),
      ([0b01011110#8, 0x34#8, 0x12#8], .lsrAbsoluteX 0x1234#16),
      ([0b01100110#8, 0x12#8], .rorZeropage 0x12#8),
      ([0b01101010#8], .rorAccumulator),
      ([0b01101110#8, 0x34#8, 0x12#8], .rorAbsolute 0x1234#16),
      ([0b01110110#8, 0x12#8], .rorZeropageX 0x12#8),
      ([0b01111110#8, 0x34#8, 0x12#8], .rorAbsoluteX 0x1234#16),
      ([0b10001000#8], .dey),
      ([0b11000110#8, 0x12#8], .decZeropage 0x12#8),
      ([0b11001000#8], .iny),
      ([0b11001010#8], .dex),
      ([0b11001110#8, 0x34#8, 0x12#8], .decAbsolute 0x1234#16),
      ([0b11010110#8, 0x12#8], .decZeropageX 0x12#8),
      ([0b11011110#8, 0x34#8, 0x12#8], .decAbsoluteX 0x1234#16),
      ([0b11100110#8, 0x12#8], .incZeropage 0x12#8),
      ([0b11101000#8], .inx),
      ([0b11101110#8, 0x34#8, 0x12#8], .incAbsolute 0x1234#16),
      ([0b11110110#8, 0x12#8], .incZeropageX 0x12#8),
      ([0b11111110#8, 0x34#8, 0x12#8], .incAbsoluteX 0x1234#16)] : List (List Byte × Instr)).all (fun c => decodesTo c.1 c.2) = true := by decide

theorem test_decode_jumps_branches : (
    [
      ([0b00010000#8, 0x12#8], .bpl 0x12#8),
      ([0b00100000#8, 0x34#8, 0x12#8], .jsr 0x1234#16),
      ([0b00110000#8, 0x12#8], .bmi 0x12#8),
      ([0b01001100#8, 0x34#8, 0x12#8], .jmpAbsolute 0x1234#16),
      ([0b01010000#8, 0x12#8], .bvc 0x12#8),
      ([0b01100000#8], .rts),
      ([0b01101100#8, 0x34#8, 0x12#8], .jmpIndirect 0x1234#16),
      ([0b01110000#8, 0x12#8], .bvs 0x12#8),
      ([0b10010000#8, 0x12#8], .bcc 0x12#8),
      ([0b10110000#8, 0x12#8], .bcs 0x12#8),
      ([0b11010000#8, 0x12#8], .bne 0x12#8),
      ([0b11110000#8, 0x12#8], .beq 0x12#8)] : List (List Byte × Instr)).all (fun c => decodesTo c.1 c.2) = true := by decide

theorem test_decode_flags_system : (
    [
      ([0b00000000#8], .brk),
      ([0b00011000#8], .clc),
      ([0b00111000#8], .sec),
      ([0b01000000#8], .rti),
      ([0b01011000#8], .cli),
      ([0b01111000#8], .sei),
      ([0b10111000#8], .clv),
      ([0b11011000#8], .cld),
      ([0b11101010#8], .nop),
      ([0b11111000#8], .sed)] : List (List Byte × Instr)).all (fun c => decodesTo c.1 c.2) = true := by decide

theorem test_decode_unmapped : decode [0x89#8, 0x00#8] = .error (.badOpcode 0x89#8) := by rfl
theorem test_decode_truncated : decode [0xAD#8, 0x00#8] = .error .truncated := by rfl
theorem test_table_word : decodeTableWord 24 0x02FF6C = some (.jmpIndirect 0x02FF#16) := by decide
theorem test_table_word_short : decodeTableWord 8 0xA9 = some (.ldaImmediate 0x00#8) := by decide

/-! ## One step on small states. As in `95_test_vectors.md`, a register not named is 0x00 and a byte not named is 0x00. -/

/-- RAM holding the listed bytes. -/
def ram (cells : List Host.Cell) : Memory := cells.foldl (fun m c => m.write c.1 c.2) []

/-- A Ready CPU about to execute the bytes at `pc`, every register zero, the listed bytes elsewhere in RAM. -/
def at_ (pc : Word) (bytes : List Byte) (cells : List Host.Cell) : State :=
  let z := State.construct { Bus.afterReset with mem := (ram cells).load pc bytes, history := [] } Clock.fresh
    (.divider 12) []
  z.setPC pc

/-- The state a step leaves, if it answers one. -/
def after (s : State) : Option State :=
  match step s with
  | .next t => some t
  | _ => none

/-- The cycle count of the instruction that has just executed. -/
def cost (t : State) : Nat :=
  match t.phase with
  | .waiting _ c => c
  | _ => 0

/-- The bus transactions, first to last. -/
def trace (t : State) : List BusEvent := t.bus.history.reverse

/-- The register file: A, X, Y, SP, P, PC. -/
structure Regs where
  a : Byte
  x : Byte
  y : Byte
  sp : Byte
  p : Byte
  pc : Word
deriving DecidableEq, Repr

/-- The register file of a state. -/
def regsOf (t : State) : Regs := ⟨t.a, t.x, t.y, t.sp, t.p, t.pc⟩

/-- The register file and the cycles after a step. -/
def regs (s : State) : Option (Regs × Nat) := (after s).map fun t => (regsOf t, cost t)

/-- A byte of RAM after a step. -/
def ramAfter (s : State) (addr : Word) : Option Byte := (after s).map fun t => t.bus.peek addr

/-- S1. -/
theorem test_S1_lda_immediate : regs (at_ 0x8000#16 [0xA9#8, 0x00#8] []) =
    some (⟨0x00#8, 0x00#8, 0x00#8, 0x00#8, 0x02#8, 0x8002#16⟩, 2) := by decide

/-- S2. -/
theorem test_S2_adc_overflow : regs { at_ 0x0600#16 [0x69#8, 0x50#8] [] with a := 0x50#8 } =
    some (⟨0xA0#8, 0x00#8, 0x00#8, 0x00#8, 0xC0#8, 0x0602#16⟩, 2) := by decide

/-- S3. -/
theorem test_S3_adc_decimal : regs { at_ 0x0600#16 [0x69#8, 0x27#8] [] with a := 0x15#8, p := 0x08#8 } =
    some (⟨0x42#8, 0x00#8, 0x00#8, 0x00#8, 0x08#8, 0x0602#16⟩, 2) := by decide

/-- S4. -/
theorem test_S4_beq_page_cross : regs { at_ 0x80FD#16 [0xF0#8, 0x04#8] [] with p := 0x02#8 } =
    some (⟨0x00#8, 0x00#8, 0x00#8, 0x00#8, 0x02#8, 0x8103#16⟩, 4) := by decide

/-- S5: the byte at 0x0300 is never read. -/
theorem test_S5_jmp_indirect_trace : (after (at_ 0x3000#16 [0x6C#8, 0xFF#8, 0x02#8] [(0x02FF, 0x34#8), (0x0200, 0x12#8), (0x0300, 0x56#8)])).map trace =
    some [.read 0x3000#16 0x6C#8, .read 0x3001#16 0xFF#8, .read 0x3002#16 0x02#8, .read 0x02FF#16 0x34#8, .read 0x0200#16 0x12#8] := by decide

/-- S5. -/
theorem test_S5_jmp_indirect : regs (at_ 0x3000#16 [0x6C#8, 0xFF#8, 0x02#8] [(0x02FF, 0x34#8), (0x0200, 0x12#8), (0x0300, 0x56#8)]) =
    some (⟨0x00#8, 0x00#8, 0x00#8, 0x00#8, 0x00#8, 0x1234#16⟩, 5) := by decide

/-- A-1. -/
theorem test_A1_lda_zeropage_x : regs { at_ 0x0600#16 [0xB5#8, 0xFF#8] [(0x0001, 0x77#8), (0x0101, 0x11#8)] with x := 0x02#8 } =
    some (⟨0x77#8, 0x02#8, 0x00#8, 0x00#8, 0x00#8, 0x0602#16⟩, 4) := by decide

/-- A-2. -/
theorem test_A2_ldx_zeropage_y : regs { at_ 0x0600#16 [0xB6#8, 0xF0#8] [(0x0010, 0x80#8)] with y := 0x20#8 } =
    some (⟨0x00#8, 0x80#8, 0x20#8, 0x00#8, 0x80#8, 0x0602#16⟩, 4) := by decide

/-- A-3. -/
theorem test_A3_lda_absolute : regs (at_ 0x0600#16 [0xAD#8, 0x34#8, 0x12#8] [(0x1234, 0x01#8)]) =
    some (⟨0x01#8, 0x00#8, 0x00#8, 0x00#8, 0x00#8, 0x0603#16⟩, 4) := by decide

/-- A-4. -/
theorem test_A4_lda_absolute_x : regs { at_ 0x0600#16 [0xBD#8, 0x00#8, 0x12#8] [(0x12FF, 0x05#8)] with x := 0xFF#8 } =
    some (⟨0x05#8, 0xFF#8, 0x00#8, 0x00#8, 0x00#8, 0x0603#16⟩, 4) := by decide

/-- A-5. -/
theorem test_A5_lda_absolute_x_cross : regs { at_ 0x0600#16 [0xBD#8, 0xFF#8, 0x12#8] [(0x1300, 0x05#8)] with x := 0x01#8 } =
    some (⟨0x05#8, 0x01#8, 0x00#8, 0x00#8, 0x00#8, 0x0603#16⟩, 5) := by decide

/-- A-6. -/
theorem test_A6_lda_absolute_y_wrap : regs { at_ 0x0600#16 [0xB9#8, 0xFF#8, 0xFF#8] [(0x0000, 0x42#8)] with y := 0x01#8 } =
    some (⟨0x42#8, 0x00#8, 0x01#8, 0x00#8, 0x00#8, 0x0603#16⟩, 5) := by decide

/-- A-7. -/
theorem test_A7_lda_indexed_indirect : regs { at_ 0x0600#16 [0xA1#8, 0xFE#8] [(0x0002, 0x00#8), (0x0003, 0x40#8), (0x4000, 0x9C#8)] with x := 0x04#8 } =
    some (⟨0x9C#8, 0x04#8, 0x00#8, 0x00#8, 0x80#8, 0x0602#16⟩, 6) := by decide

/-- A-8. -/
theorem test_A8_lda_indexed_indirect_wrap : regs (at_ 0x0600#16 [0xA1#8, 0xFF#8] [(0x00FF, 0x10#8), (0x0000, 0x20#8), (0x0100, 0x30#8), (0x2010, 0x5A#8)]) =
    some (⟨0x5A#8, 0x00#8, 0x00#8, 0x00#8, 0x00#8, 0x0602#16⟩, 6) := by decide

/-- A-10. -/
theorem test_A10_lda_indirect_indexed_cross : regs { at_ 0x0600#16 [0xB1#8, 0x10#8] [(0x0010, 0xF8#8), (0x0011, 0x40#8), (0x4108, 0xFF#8)] with y := 0x10#8 } =
    some (⟨0xFF#8, 0x00#8, 0x10#8, 0x00#8, 0x80#8, 0x0602#16⟩, 6) := by decide

/-- A-10, the trace. -/
theorem test_A10_trace : (after { at_ 0x0600#16 [0xB1#8, 0x10#8] [(0x0010, 0xF8#8), (0x0011, 0x40#8), (0x4108, 0xFF#8)] with y := 0x10#8 }).map trace =
    some [.read 0x0600#16 0xB1#8, .read 0x0601#16 0x10#8, .read 0x0010#16 0xF8#8, .read 0x0011#16 0x40#8, .read 0x4108#16 0xFF#8] := by decide

/-- A-11. -/
theorem test_A11_lda_indirect_indexed_wrap : regs (at_ 0x0600#16 [0xB1#8, 0xFF#8] [(0x00FF, 0x00#8), (0x0000, 0x30#8), (0x3000, 0x08#8)]) =
    some (⟨0x08#8, 0x00#8, 0x00#8, 0x00#8, 0x00#8, 0x0602#16⟩, 5) := by decide

/-- A-12: no dummy read. -/
theorem test_A12_sta_absolute_x_trace : (after { at_ 0x0600#16 [0x9D#8, 0xFF#8, 0x12#8] [] with a := 0xAB#8, x := 0x01#8 }).map trace =
    some [.read 0x0600#16 0x9D#8, .read 0x0601#16 0xFF#8, .read 0x0602#16 0x12#8, .write 0x1300#16 0xAB#8] := by decide

/-- A-13: no penalty. -/
theorem test_A13_sta_indirect_indexed : regs { at_ 0x0600#16 [0x91#8, 0x10#8] [(0x0010, 0xF8#8), (0x0011, 0x40#8)] with a := 0xAB#8, y := 0x10#8 } =
    some (⟨0xAB#8, 0x00#8, 0x10#8, 0x00#8, 0x00#8, 0x0602#16⟩, 6) := by decide

/-- A-13. -/
theorem test_A13_sta_stores : ramAfter { at_ 0x0600#16 [0x91#8, 0x10#8] [(0x0010, 0xF8#8), (0x0011, 0x40#8)] with a := 0xAB#8, y := 0x10#8 } 0x4108#16 = some 0xAB#8 := by decide

/-- A-14. -/
theorem test_A14_jmp_indirect_no_wrap : regs (at_ 0x0600#16 [0x6C#8, 0x00#8, 0x03#8] [(0x0300, 0x56#8), (0x0301, 0x34#8)]) =
    some (⟨0x00#8, 0x00#8, 0x00#8, 0x00#8, 0x00#8, 0x3456#16⟩, 5) := by decide

/-- A-15. -/
theorem test_A15_fetch_wraps : regs (at_ 0xFFFF#16 [0xA9#8, 0x00#8] []) =
    some (⟨0x00#8, 0x00#8, 0x00#8, 0x00#8, 0x02#8, 0x0001#16⟩, 2) := by decide

/-- B-2. -/
theorem test_B2_ldx_zero : regs { at_ 0x0600#16 [0xA2#8, 0x00#8] [] with x := 0x05#8 } =
    some (⟨0x00#8, 0x00#8, 0x00#8, 0x00#8, 0x02#8, 0x0602#16⟩, 2) := by decide

/-- B-3. -/
theorem test_B3_ldy_absolute_x : regs { at_ 0x0600#16 [0xBC#8, 0xF0#8, 0x10#8] [(0x1110, 0x7F#8)] with x := 0x20#8 } =
    some (⟨0x00#8, 0x20#8, 0x7F#8, 0x00#8, 0x00#8, 0x0603#16⟩, 5) := by decide

/-- B-4. -/
theorem test_B4_stx_zeropage_y : ramAfter { at_ 0x0600#16 [0x96#8, 0xFF#8] [] with x := 0x3C#8, y := 0x02#8 } 0x0001#16 = some 0x3C#8 := by decide

/-- B-5. -/
theorem test_B5_sty_absolute : ramAfter { at_ 0x0600#16 [0x8C#8, 0x00#8, 0x02#8] [] with y := 0x99#8 } 0x0200#16 = some 0x99#8 := by decide

/-- B-6. -/
theorem test_B6_tax : regs { at_ 0x0600#16 [0xAA#8] [] with x := 0x05#8, p := 0x80#8 } =
    some (⟨0x00#8, 0x00#8, 0x00#8, 0x00#8, 0x02#8, 0x0601#16⟩, 2) := by decide

/-- B-6a. -/
theorem test_B6a_txa : regs { at_ 0x0600#16 [0x8A#8] [] with x := 0xF0#8 } =
    some (⟨0xF0#8, 0xF0#8, 0x00#8, 0x00#8, 0x80#8, 0x0601#16⟩, 2) := by decide

/-- B-6b. -/
theorem test_B6b_tsx : regs { at_ 0x0600#16 [0xBA#8] [] with sp := 0xFD#8 } =
    some (⟨0x00#8, 0xFD#8, 0x00#8, 0xFD#8, 0x80#8, 0x0601#16⟩, 2) := by decide

/-- B-6c: TXS sets no flag. -/
theorem test_B6c_txs : regs { at_ 0x0600#16 [0x9A#8] [] with sp := 0x33#8 } =
    some (⟨0x00#8, 0x00#8, 0x00#8, 0x00#8, 0x00#8, 0x0601#16⟩, 2) := by decide

/-- The example of R112. -/
theorem test_R112_tay : regs { at_ 0x0600#16 [0xA8#8] [] with y := 0x01#8 } =
    some (⟨0x00#8, 0x00#8, 0x00#8, 0x00#8, 0x02#8, 0x0601#16⟩, 2) := by decide

/-- The example of R114. -/
theorem test_R114_tya : regs { at_ 0x0600#16 [0x98#8] [] with y := 0xFF#8 } =
    some (⟨0xFF#8, 0x00#8, 0xFF#8, 0x00#8, 0x80#8, 0x0601#16⟩, 2) := by decide

/-- B-7. -/
theorem test_B7_pha_trace : (after { at_ 0x0600#16 [0x48#8] [] with a := 0x3C#8, sp := 0xFD#8 }).map trace =
    some [.read 0x0600#16 0x48#8, .write 0x01FD#16 0x3C#8] := by decide

/-- B-7a. -/
theorem test_B7a_pha_wraps : regs { at_ 0x0600#16 [0x48#8] [] with a := 0x3C#8, sp := 0x00#8 } =
    some (⟨0x3C#8, 0x00#8, 0x00#8, 0xFF#8, 0x00#8, 0x0601#16⟩, 3) := by decide

/-- B-8: bit 5 is not forced. -/
theorem test_B8_php : ramAfter { at_ 0x0600#16 [0x08#8] [] with p := 0x04#8, sp := 0xFD#8 } 0x01FD#16 = some 0x14#8 := by decide

/-- B-9: bit 5 as stored. -/
theorem test_B9_php_bit5 : ramAfter { at_ 0x0600#16 [0x08#8] [] with p := 0xE0#8, sp := 0xFD#8 } 0x01FD#16 = some 0xF0#8 := by decide

/-- B-10. -/
theorem test_B10_pla : regs { at_ 0x0600#16 [0x68#8] [] with a := 0x55#8, sp := 0xFC#8 } =
    some (⟨0x00#8, 0x00#8, 0x00#8, 0xFD#8, 0x02#8, 0x0601#16⟩, 4) := by decide

/-- B-11. -/
theorem test_B11_pla_wraps : regs { at_ 0x0600#16 [0x68#8] [(0x0100, 0x81#8)] with sp := 0xFF#8 } =
    some (⟨0x81#8, 0x00#8, 0x00#8, 0x00#8, 0x80#8, 0x0601#16⟩, 4) := by decide

/-- B-12: all eight bits. -/
theorem test_B12_plp : regs { at_ 0x0600#16 [0x28#8] [(0x01FD, 0xFF#8)] with sp := 0xFC#8 } =
    some (⟨0x00#8, 0x00#8, 0x00#8, 0xFD#8, 0xFF#8, 0x0601#16⟩, 4) := by decide

/-- B-13. -/
theorem test_B13_plp_clears : regs { at_ 0x0600#16 [0x28#8] [] with p := 0xFF#8, sp := 0xFC#8 } =
    some (⟨0x00#8, 0x00#8, 0x00#8, 0xFD#8, 0x00#8, 0x0601#16⟩, 4) := by decide

/-- C-1. -/
theorem test_C1_and : regs { at_ 0x0600#16 [0x29#8, 0x0F#8] [] with a := 0xF0#8 } =
    some (⟨0x00#8, 0x00#8, 0x00#8, 0x00#8, 0x02#8, 0x0602#16⟩, 2) := by decide

/-- C-2. -/
theorem test_C2_ora : regs { at_ 0x0600#16 [0x09#8, 0x80#8] [] with a := 0x01#8 } =
    some (⟨0x81#8, 0x00#8, 0x00#8, 0x00#8, 0x80#8, 0x0602#16⟩, 2) := by decide

/-- C-3. -/
theorem test_C3_eor : regs { at_ 0x0600#16 [0x49#8, 0xFF#8] [] with a := 0xFF#8 } =
    some (⟨0x00#8, 0x00#8, 0x00#8, 0x00#8, 0x02#8, 0x0602#16⟩, 2) := by decide

/-- C-4. -/
theorem test_C4_bit : regs { at_ 0x0600#16 [0x24#8, 0x10#8] [(0x0010, 0xC0#8)] with a := 0x01#8 } =
    some (⟨0x01#8, 0x00#8, 0x00#8, 0x00#8, 0xC2#8, 0x0602#16⟩, 3) := by decide

/-- C-5. -/
theorem test_C5_bit : regs { at_ 0x0600#16 [0x24#8, 0x10#8] [(0x0010, 0x41#8)] with a := 0x41#8, p := 0x80#8 } =
    some (⟨0x41#8, 0x00#8, 0x00#8, 0x00#8, 0x40#8, 0x0602#16⟩, 3) := by decide

/-- C-7. -/
theorem test_C7_adc_wraps : regs { at_ 0x0600#16 [0x69#8, 0x80#8] [] with a := 0x80#8 } =
    some (⟨0x00#8, 0x00#8, 0x00#8, 0x00#8, 0x43#8, 0x0602#16⟩, 2) := by decide

/-- C-8. -/
theorem test_C8_adc_carry_in : regs { at_ 0x0600#16 [0x69#8, 0x00#8] [] with a := 0x7F#8, p := 0x01#8 } =
    some (⟨0x80#8, 0x00#8, 0x00#8, 0x00#8, 0xC0#8, 0x0602#16⟩, 2) := by decide

/-- C-10. -/
theorem test_C10_sbc_borrow : regs { at_ 0x0600#16 [0xE9#8, 0x01#8] [] with a := 0x00#8, p := 0x01#8 } =
    some (⟨0xFF#8, 0x00#8, 0x00#8, 0x00#8, 0x80#8, 0x0602#16⟩, 2) := by decide

/-- C-11. -/
theorem test_C11_sbc_overflow : regs { at_ 0x0600#16 [0xE9#8, 0x01#8] [] with a := 0x80#8, p := 0x01#8 } =
    some (⟨0x7F#8, 0x00#8, 0x00#8, 0x00#8, 0x41#8, 0x0602#16⟩, 2) := by decide

/-- C-14. -/
theorem test_C14_sbc_borrow_in : regs { at_ 0x0600#16 [0xE9#8, 0x05#8] [] with a := 0x05#8 } =
    some (⟨0xFF#8, 0x00#8, 0x00#8, 0x00#8, 0x80#8, 0x0602#16⟩, 2) := by decide

/-- C-16 to C-19c: decimal ADC, invalid digits included. -/
theorem test_C16_C19_adc_decimal :
    [(0x99#8, 0x01#8, false), (0x58#8, 0x46#8, true), (0x12#8, 0x34#8, false), (0x50#8, 0x50#8, false),
      (0x0F#8, 0x01#8, false), (0x9A#8, 0x00#8, false), (0xFF#8, 0xFF#8, false)].map (fun c => addBcd c.1 c.2.1 c.2.2) =
    [(0x00#8, true), (0x05#8, true), (0x46#8, false), (0x00#8, true), (0x16#8, false), (0x00#8, true), (0x54#8, true)] := by
  decide

/-- C-19c: V from the BCD result. -/
theorem test_C19c_adc_decimal_flags : regs { at_ 0x0600#16 [0x69#8, 0xFF#8] [] with a := 0xFF#8, p := 0x08#8 } =
    some (⟨0x54#8, 0x00#8, 0x00#8, 0x00#8, 0x49#8, 0x0602#16⟩, 2) := by decide

/-- C-19d. -/
theorem test_C19d_sbc_decimal : regs { at_ 0x0600#16 [0xE9#8, 0x15#8] [] with a := 0x42#8, p := 0x09#8 } =
    some (⟨0x27#8, 0x00#8, 0x00#8, 0x00#8, 0x09#8, 0x0602#16⟩, 2) := by decide

/-- C-19e. -/
theorem test_C19e_sbc_decimal_borrow : regs { at_ 0x0600#16 [0xE9#8, 0x01#8] [] with a := 0x00#8, p := 0x09#8 } =
    some (⟨0x99#8, 0x00#8, 0x00#8, 0x00#8, 0x88#8, 0x0602#16⟩, 2) := by decide

/-- C-19g. -/
theorem test_C19g_sbc_decimal_borrow_in : regs { at_ 0x0600#16 [0xE9#8, 0x13#8] [] with a := 0x40#8, p := 0x08#8 } =
    some (⟨0x26#8, 0x00#8, 0x00#8, 0x00#8, 0x09#8, 0x0602#16⟩, 2) := by decide

/-- C-23. -/
theorem test_C23_cmp_no_carry_in : regs { at_ 0x0600#16 [0xC9#8, 0x41#8] [] with a := 0x40#8, p := 0x01#8 } =
    some (⟨0x40#8, 0x00#8, 0x00#8, 0x00#8, 0x80#8, 0x0602#16⟩, 2) := by decide

/-- C-25. -/
theorem test_C25_cmp_ignores_decimal : regs { at_ 0x0600#16 [0xC9#8, 0x09#8] [] with a := 0x10#8, p := 0x08#8 } =
    some (⟨0x10#8, 0x00#8, 0x00#8, 0x00#8, 0x09#8, 0x0602#16⟩, 2) := by decide

/-- C-26. -/
theorem test_C26_cmp_keeps_v : regs { at_ 0x0600#16 [0xC9#8, 0x01#8] [] with a := 0x80#8, p := 0x40#8 } =
    some (⟨0x80#8, 0x00#8, 0x00#8, 0x00#8, 0x41#8, 0x0602#16⟩, 2) := by decide

/-- C-27. -/
theorem test_C27_cpx : regs { at_ 0x0600#16 [0xE0#8, 0x10#8] [] with x := 0x0F#8 } =
    some (⟨0x00#8, 0x0F#8, 0x00#8, 0x00#8, 0x80#8, 0x0602#16⟩, 2) := by decide

/-- C-28. -/
theorem test_C28_cpy : regs (at_ 0x0600#16 [0xC0#8, 0x00#8] []) =
    some (⟨0x00#8, 0x00#8, 0x00#8, 0x00#8, 0x03#8, 0x0602#16⟩, 2) := by decide

/-- D-1: one read, one write. -/
theorem test_D1_inc_trace : (after (at_ 0x0600#16 [0xE6#8, 0x10#8] [(0x0010, 0xFF#8)])).map trace =
    some [.read 0x0600#16 0xE6#8, .read 0x0601#16 0x10#8, .read 0x0010#16 0xFF#8, .write 0x0010#16 0x00#8] := by decide

/-- D-1. -/
theorem test_D1_inc_flags : regs (at_ 0x0600#16 [0xE6#8, 0x10#8] [(0x0010, 0xFF#8)]) =
    some (⟨0x00#8, 0x00#8, 0x00#8, 0x00#8, 0x02#8, 0x0602#16⟩, 5) := by decide

/-- D-3: page crossed, no penalty. -/
theorem test_D3_dec_absolute_x : regs { at_ 0x0600#16 [0xDE#8, 0xFF#8, 0x0F#8] [] with x := 0x01#8 } =
    some (⟨0x00#8, 0x01#8, 0x00#8, 0x00#8, 0x80#8, 0x0603#16⟩, 7) := by decide

/-- D-3. -/
theorem test_D3_dec_stores : ramAfter { at_ 0x0600#16 [0xDE#8, 0xFF#8, 0x0F#8] [] with x := 0x01#8 } 0x1000#16 = some 0xFF#8 := by decide

/-- D-4. -/
theorem test_D4_inx : regs { at_ 0x0600#16 [0xE8#8] [] with x := 0xFF#8 } =
    some (⟨0x00#8, 0x00#8, 0x00#8, 0x00#8, 0x02#8, 0x0601#16⟩, 2) := by decide

/-- The example of R135. -/
theorem test_R135_iny : regs { at_ 0x0600#16 [0xC8#8] [] with y := 0xFF#8 } =
    some (⟨0x00#8, 0x00#8, 0x00#8, 0x00#8, 0x02#8, 0x0601#16⟩, 2) := by decide

/-- The example of R136. -/
theorem test_R136_dex : regs { at_ 0x0600#16 [0xCA#8] [] with x := 0x01#8 } =
    some (⟨0x00#8, 0x00#8, 0x00#8, 0x00#8, 0x02#8, 0x0601#16⟩, 2) := by decide

/-- D-5. -/
theorem test_D5_dey : regs (at_ 0x0600#16 [0x88#8] []) =
    some (⟨0x00#8, 0x00#8, 0xFF#8, 0x00#8, 0x80#8, 0x0601#16⟩, 2) := by decide

/-- D-6. -/
theorem test_D6_asl : regs { at_ 0x0600#16 [0x0A#8] [] with a := 0x80#8 } =
    some (⟨0x00#8, 0x00#8, 0x00#8, 0x00#8, 0x03#8, 0x0601#16⟩, 2) := by decide

/-- D-7. -/
theorem test_D7_asl : regs { at_ 0x0600#16 [0x0A#8] [] with a := 0xC1#8 } =
    some (⟨0x82#8, 0x00#8, 0x00#8, 0x00#8, 0x81#8, 0x0601#16⟩, 2) := by decide

/-- D-8. -/
theorem test_D8_lsr_flags : regs (at_ 0x0600#16 [0x46#8, 0x20#8] [(0x0020, 0x03#8)]) =
    some (⟨0x00#8, 0x00#8, 0x00#8, 0x00#8, 0x01#8, 0x0602#16⟩, 5) := by decide

/-- D-8. -/
theorem test_D8_lsr_stores : ramAfter (at_ 0x0600#16 [0x46#8, 0x20#8] [(0x0020, 0x03#8)]) 0x0020#16 = some 0x01#8 := by decide

/-- D-9. -/
theorem test_D9_lsr : regs { at_ 0x0600#16 [0x4A#8] [] with a := 0x01#8 } =
    some (⟨0x00#8, 0x00#8, 0x00#8, 0x00#8, 0x03#8, 0x0601#16⟩, 2) := by decide

/-- D-10. -/
theorem test_D10_rol : regs { at_ 0x0600#16 [0x2A#8] [] with a := 0x80#8 } =
    some (⟨0x00#8, 0x00#8, 0x00#8, 0x00#8, 0x03#8, 0x0601#16⟩, 2) := by decide

/-- D-11. -/
theorem test_D11_rol : regs { at_ 0x0600#16 [0x2A#8] [] with a := 0x40#8, p := 0x01#8 } =
    some (⟨0x81#8, 0x00#8, 0x00#8, 0x00#8, 0x80#8, 0x0601#16⟩, 2) := by decide

/-- D-12. -/
theorem test_D12_ror : regs { at_ 0x0600#16 [0x6A#8] [] with a := 0x01#8 } =
    some (⟨0x00#8, 0x00#8, 0x00#8, 0x00#8, 0x03#8, 0x0601#16⟩, 2) := by decide

/-- D-13. -/
theorem test_D13_ror_stores : ramAfter { at_ 0x0600#16 [0x6E#8, 0x00#8, 0x03#8] [(0x0300, 0x02#8)] with p := 0x01#8 } 0x0300#16 = some 0x81#8 := by decide

/-- F-1. -/
theorem test_F1_bcc : regs (at_ 0x0600#16 [0x90#8, 0xFE#8] []) =
    some (⟨0x00#8, 0x00#8, 0x00#8, 0x00#8, 0x00#8, 0x0600#16⟩, 3) := by decide

/-- F-2. -/
theorem test_F2_bcs_untaken : regs (at_ 0x0600#16 [0xB0#8, 0x10#8] []) =
    some (⟨0x00#8, 0x00#8, 0x00#8, 0x00#8, 0x00#8, 0x0602#16⟩, 2) := by decide

/-- F-3. -/
theorem test_F3_bmi : regs { at_ 0x0700#16 [0x30#8, 0xF0#8] [] with p := 0x80#8 } =
    some (⟨0x00#8, 0x00#8, 0x00#8, 0x00#8, 0x80#8, 0x06F2#16⟩, 4) := by decide

/-- F-4. -/
theorem test_F4_bne : regs (at_ 0x0608#16 [0xD0#8, 0xFA#8] []) =
    some (⟨0x00#8, 0x00#8, 0x00#8, 0x00#8, 0x00#8, 0x0604#16⟩, 3) := by decide

/-- F-5. -/
theorem test_F5_bpl_wraps : regs (at_ 0xFFF0#16 [0x10#8, 0x7F#8] []) =
    some (⟨0x00#8, 0x00#8, 0x00#8, 0x00#8, 0x00#8, 0x0071#16⟩, 4) := by decide

/-- F-6. -/
theorem test_F6_bvc : regs (at_ 0x0280#16 [0x50#8, 0x80#8] []) =
    some (⟨0x00#8, 0x00#8, 0x00#8, 0x00#8, 0x00#8, 0x0202#16⟩, 3) := by decide

/-- F-7. -/
theorem test_F7_bvs : regs { at_ 0x0400#16 [0x70#8, 0x7F#8] [] with p := 0x40#8 } =
    some (⟨0x00#8, 0x00#8, 0x00#8, 0x00#8, 0x40#8, 0x0481#16⟩, 3) := by decide

/-- F-8a: no extra read. -/
theorem test_F8a_branch_trace : (after { at_ 0x80FD#16 [0xF0#8, 0x04#8] [] with p := 0x02#8 }).map trace =
    some [.read 0x80FD#16 0xF0#8, .read 0x80FE#16 0x04#8] := by decide

/-- F-9. -/
theorem test_F9_jmp : regs (at_ 0x0600#16 [0x4C#8, 0x00#8, 0xC0#8] []) =
    some (⟨0x00#8, 0x00#8, 0x00#8, 0x00#8, 0x00#8, 0xC000#16⟩, 3) := by decide

/-- F-10. -/
theorem test_F10_jsr : regs { at_ 0x1000#16 [0x20#8, 0x00#8, 0x50#8] [] with sp := 0xFD#8 } =
    some (⟨0x00#8, 0x00#8, 0x00#8, 0xFB#8, 0x00#8, 0x5000#16⟩, 6) := by decide

/-- F-10. -/
theorem test_F10_jsr_trace : (after { at_ 0x1000#16 [0x20#8, 0x00#8, 0x50#8] [] with sp := 0xFD#8 }).map trace =
    some [.read 0x1000#16 0x20#8, .read 0x1001#16 0x00#8, .read 0x1002#16 0x50#8, .write 0x01FD#16 0x10#8, .write 0x01FC#16 0x02#8] := by decide

/-- F-12. -/
theorem test_F12_jsr_stack_wraps : ramAfter { at_ 0x1000#16 [0x20#8, 0x00#8, 0x50#8] [] with sp := 0x00#8 } 0x01FF#16 = some 0x02#8 := by decide

/-- F-13. -/
theorem test_F13_rts_wraps : regs { at_ 0x0600#16 [0x60#8] [(0x01FC, 0xFF#8), (0x01FD, 0xFF#8)] with sp := 0xFB#8 } =
    some (⟨0x00#8, 0x00#8, 0x00#8, 0xFD#8, 0x00#8, 0x0000#16⟩, 6) := by decide

/-- G-1. -/
theorem test_G1_brk : regs { at_ 0x0607#16 [0x00#8] [(0xFFFE, 0x00#8), (0xFFFF, 0x07#8)] with p := 0x05#8, sp := 0xFD#8 } =
    some (⟨0x00#8, 0x00#8, 0x00#8, 0xFA#8, 0x05#8, 0x0700#16⟩, 7) := by decide

/-- G-1: the padding byte is not read. -/
theorem test_G1_brk_trace : (after { at_ 0x0607#16 [0x00#8] [(0xFFFE, 0x00#8), (0xFFFF, 0x07#8)] with p := 0x05#8, sp := 0xFD#8 }).map trace =
    some [.read 0x0607#16 0x00#8, .write 0x01FD#16 0x06#8, .write 0x01FC#16 0x09#8, .write 0x01FB#16 0x15#8, .read 0xFFFE#16 0x00#8, .read 0xFFFF#16 0x07#8] := by decide

/-- G-2. -/
theorem test_G2_brk_sets_i : regs { at_ 0x0607#16 [0x00#8] [(0xFFFE, 0x00#8), (0xFFFF, 0x07#8)] with p := 0x20#8, sp := 0x01#8 } =
    some (⟨0x00#8, 0x00#8, 0x00#8, 0xFE#8, 0x24#8, 0x0700#16⟩, 7) := by decide

/-- G-3. -/
theorem test_G3_rti : regs { at_ 0x0600#16 [0x40#8] [(0x01FB, 0x15#8), (0x01FC, 0x09#8), (0x01FD, 0x06#8)] with sp := 0xFA#8 } =
    some (⟨0x00#8, 0x00#8, 0x00#8, 0xFD#8, 0x15#8, 0x0609#16⟩, 6) := by decide

/-- G-4. -/
theorem test_G4_nop : regs { at_ 0x0600#16 [0xEA#8] [] with a := 0x01#8, p := 0xA5#8 } =
    some (⟨0x01#8, 0x00#8, 0x00#8, 0x00#8, 0xA5#8, 0x0601#16⟩, 2) := by decide

/-- G-5. -/
theorem test_G5_sed : regs (at_ 0x0600#16 [0xF8#8] []) =
    some (⟨0x00#8, 0x00#8, 0x00#8, 0x00#8, 0x08#8, 0x0601#16⟩, 2) := by decide

/-- G-6. -/
theorem test_G6_clv : regs { at_ 0x0600#16 [0xB8#8] [] with p := 0x44#8 } =
    some (⟨0x00#8, 0x00#8, 0x00#8, 0x00#8, 0x04#8, 0x0601#16⟩, 2) := by decide

/-- G-7. -/
theorem test_G7_clc : regs { at_ 0x0600#16 [0x18#8] [] with p := 0x05#8 } =
    some (⟨0x00#8, 0x00#8, 0x00#8, 0x00#8, 0x04#8, 0x0601#16⟩, 2) := by decide

/-- G-8. -/
theorem test_G8_sei : regs (at_ 0x0600#16 [0x78#8] []) =
    some (⟨0x00#8, 0x00#8, 0x00#8, 0x00#8, 0x04#8, 0x0601#16⟩, 2) := by decide

/-- The example of R156. -/
theorem test_R156_cld : regs { at_ 0x0600#16 [0xD8#8] [] with p := 0x0C#8 } =
    some (⟨0x00#8, 0x00#8, 0x00#8, 0x00#8, 0x04#8, 0x0601#16⟩, 2) := by decide

/-- The example of R157. -/
theorem test_R157_cli : regs { at_ 0x0600#16 [0x58#8] [] with p := 0x04#8 } =
    some (⟨0x00#8, 0x00#8, 0x00#8, 0x00#8, 0x00#8, 0x0601#16⟩, 2) := by decide

/-- The example of R159. -/
theorem test_R159_sec : regs { at_ 0x0600#16 [0x38#8] [] with p := 0x04#8 } =
    some (⟨0x00#8, 0x00#8, 0x00#8, 0x00#8, 0x05#8, 0x0601#16⟩, 2) := by decide

/-! ## Errors, reset and the clock -/

/-- H-1: registers unchanged, PC past the opcode, one bus read, phase Halted, `execute` has returned (0, BadOpcode). -/
theorem test_H1_bad_opcode :
    (after { at_ 0x0600#16 [0x02#8] [] with a := 1#8, x := 2#8, y := 3#8, sp := 0x80#8, p := 0x81#8 }).map (fun t =>
      (regsOf t, t.phase, t.lastReturn, trace t)) =
    some (⟨1#8, 2#8, 3#8, 0x80#8, 0x81#8, 0x0601#16⟩, .halted 0x02#8, some ⟨0#16, some 0x02#8⟩,
      [.read 0x0600#16 0x02#8]) := by decide

/-- H-2: PC wraps. -/
theorem test_H2_bad_opcode_wraps : (after (at_ 0xFFFF#16 [0xFF#8] [])).map (fun t => (t.pc, t.phase)) =
    some (0x0000#16, .halted 0xFF#8) := by decide

/-- H-3 and R-1: `reset()` leaves Halted and loads the registers. -/
theorem test_R1_reset :
    (after { at_ 0x0600#16 [] [(0xFFFC, 0x34#8), (0xFFFD, 0x12#8)] with
      phase := .halted 0x02#8, a := 9#8, p := 0xFF#8, agenda := [.reset] }).map (fun t =>
      (regsOf t, t.phase, trace t)) =
    some (⟨0#8, 0#8, 0#8, 0xFD#8, 0x04#8, 0x1234#16⟩, .ready,
      [.reset, .read 0xFFFC#16 0x34#8, .read 0xFFFD#16 0x12#8]) := by decide

/-- The machine after reset is what `reset()` makes of a new CPU on an empty bus and a new clock. -/
theorem test_reset_is_reset :
    (after (State.construct { Bus.afterReset with history := [] } Clock.fresh (.divider 12) [.reset])) =
      some State.reset := by decide

/-- R-2: `new` zeroes the registers and makes no bus access. -/
theorem test_R2_construct :
    (after { at_ 0x0600#16 [0x02#8] [] with phase := .halted 0x02#8, sp := 7#8, agenda := [.construct .same .same (.divider 12)] }).map (fun t =>
      (regsOf t, t.phase, trace t)) =
    some (⟨0#8, 0#8, 0#8, 0#8, 0#8, 0x0000#16⟩, .ready, []) := by decide

/-- `new` on another bus and another clock (R187): the CPU has them, and the event history goes on. -/
theorem test_construct_elsewhere :
    (after { at_ 0x0600#16 [] [] with agenda := [.construct (.other { Bus.afterReset with mem := [(7, 9#8)] })
        (.other { Clock.fresh with ticks := 60, running := true }) .master] }).map (fun t =>
      (t.bus.peek 0x0007#16, trace t, t.clock.ticks, t.cpuClock)) = some (9#8, [], 60, .master) := by decide

/-- An instruction placed where the step fetches runs as the first one after reset. -/
theorem test_with_fetch_word : (after (State.reset.withFetchWord 16 0x42A9)).map (fun t => (t.a, t.pc, cost t)) =
    some (0x42#8, 0x0002#16, 2) := by decide

/-- K-1: `start` twice. -/
theorem test_K1_start : (Clock.fresh.start.running, Clock.fresh.start.start.returns) = (true, [.start 0, .start 0]) := by
  decide

/-- K-3: a waiter on 8 is released when the count reaches 8, not before. -/
theorem test_K3_await :
    let c := ({ Clock.fresh with ticks := 5, running := true }).consumerAwait 1 .master 8
    ((c.tickTimes 2).waiters.length, (c.tickTimes 3).ticks, (c.tickTimes 3).waiters.length,
      (c.tickTimes 3).released.length) = (1, 8, 0, 1) := by decide

/-- K-4: a divider by 12 over a master at 25. -/
theorem test_K4_divider : (ClockRef.divider 12).scale 25 = 2 := by decide

/-- The state of K-5 after its instruction: start = 2, c = 2. -/
def k5 : State :=
  { at_ 0x0602#16 [] [] with phase := .waiting 2 2, clock := { Clock.fresh with ticks := 25, running := true } }

/-- K-5: the barrier ends at master 48 and `execute` returns (2, none). -/
theorem test_K5_barrier : (after k5).map (fun t => (t.clock.ticks, t.phase, t.lastReturn)) =
    some (48, .ready, some ⟨2#16, none⟩) := by decide

/-- K-6: lateness is not recovered: at master 60 the next instruction samples start = 5. -/
theorem test_K6_late : (after { at_ 0x0600#16 [0xEA#8] [] with clock := { Clock.fresh with ticks := 60, running := true } }).map
    (fun t => t.phase) = some (.waiting 5 2) := by decide

/-- A consumer that a draining stop at 20 released and that resumes at 25: on the master it gets 20 (R183), on a divider by 5
the quotient of the count where it resumes (R180). -/
theorem test_drained_consumer :
    let c (r : ClockRef) : Clock := { Clock.fresh with ticks := 25, released := [⟨⟨.consumer 1, r, 40⟩, some 20⟩] }
    (((c .master).consumerResume 1).returns, ((c (.divider 5)).consumerResume 1).returns) =
      ([.await 1 20], [.await 1 5]) := by decide

/-- K-8, `block`: the CPU stays registered when the master stops at 40. -/
theorem test_K8_block : (({ Clock.fresh with ticks := 40, running := true }).register .cpu (.divider 12) 4).stop.waiters =
    [⟨.cpu, .divider 12, 48⟩] := by decide

/-- K-8, `drain`: the CPU is released at once with the count 40. -/
theorem test_K8_drain :
    (({ Clock.fresh with ticks := 40, running := true, policy := .drain }).register .cpu (.divider 12) 4).stop.released =
      [⟨⟨.cpu, .divider 12, 48⟩, some 40⟩] := by decide

/-- K-7: a stop of a stopped clock is a no-op, under `drain` too. -/
theorem test_K7_stop_stopped :
    let c := ({ Clock.fresh with ticks := 5, policy := .drain }).register (.consumer 1) .master 9
    c.stop = c := by decide

/-- K-9: on a clock that was never started the CPU registers and then blocks for good. -/
theorem test_K9_hang :
    let s := { k5 with clock := { Clock.fresh with ticks := 25 } }
    (after s).bind after = after s ∧ (after s).map (fun t => t.phase) = some (.waiting 2 2) := by decide

/-- A host's `reset` in the barrier is refused by name (R194). -/
theorem test_reset_in_barrier : (match step { k5 with agenda := [.reset] } with
    | .refused r => some r
    | _ => none) = some .hostCallInBarrier := by decide

/-- A bus reset that changes the vector bytes is refused by name (R192). -/
theorem test_reset_vector_changed :
    (match hostReset { at_ 0x0600#16 [] [] with bus := { Bus.afterReset with onReset := .image [(0xFFFC, 1#8)] } } with
    | .refused r => some r
    | _ => none) = some .resetVectorChanged := by decide

/-- A halted CPU stops the run with its error. -/
theorem test_halted_faults : (match step { at_ 0x0600#16 [] [] with phase := .halted 0x02#8 } with
    | .fault f => some f
    | _ => none) = some (.badOpcode 0x02#8) := by decide

/-! ## Witnesses: for each statement that has hypotheses, a state and operands that meet all of them together, with one
witness for each clause, at the ends of its range -/

/-- The host's `new`. -/
def isNew : Move → Bool
  | .construct _ _ _ => true
  | _ => false

/-- A state whose list of moves has no `new` in it gives no bus and no clock. -/
theorem gives_nothing {s : State} (h : s.agenda.any isNew = false) :
    (∀ n c r, Move.construct (.other n) c r ∈ s.agenda → n.Sound) ∧
    (∀ b n r, Move.construct b (.other n) r ∈ s.agenda → n.Sound) := by
  rw [List.any_eq_false] at h
  exact ⟨fun _ _ _ hm => absurd rfl (h _ hm), fun _ _ _ hm => absurd rfl (h _ hm)⟩

/-- A Ready CPU at 0x0600 with nothing in RAM. -/
def idle : State := at_ 0x0600#16 [] []

/-- `idle` with one move listed. -/
def doing (m : Move) : State := { idle with agenda := [m] }

/-- A CPU in its barrier on a running clock, registered for the master target 48, another consumer released before it. -/
def registered : State :=
  { k5 with clock := { k5.clock with
      waiters := [⟨.cpu, .divider 12, 48⟩, ⟨.consumer 3, .master, 30⟩], released := [⟨⟨.consumer 1, .master, 25⟩, none⟩] } }

/-- A CPU in its barrier that the tick to 48 has released. -/
def released : State :=
  { k5 with clock := { k5.clock with ticks := 48, released := [⟨⟨.cpu, .divider 12, 48⟩, none⟩] } }

/-- `new` on another bus and on another clock, running and with a consumer waiting. -/
def constructing : Move :=
  .construct (.other { Bus.afterReset with mem := [(7, 9#8)] })
    (.other { Clock.fresh with ticks := 60, running := true, waiters := [⟨.consumer 4, .master, 61⟩] }) .master

/-- A CPU in its barrier that a draining stop has released at 40. -/
def drained : State :=
  { k5 with clock := { k5.clock with ticks := 40, running := false, released := [⟨⟨.cpu, .divider 12, 48⟩, some 40⟩] } }

theorem witness_EncodeOfDecodeIsIdentity : wellFormedBytes [0xA9#8, 0xFF#8] = true ∧
    decode [0x6C#8, 0xFF#8, 0xFF#8] = .ok (.jmpIndirect 0xFFFF#16, []) := ⟨by decide, rfl⟩

theorem witness_HostResetLoadsRegistersAndVector : ∃ rest, (doing .reset).agenda = .reset :: rest ∧
    (doing .reset).phase.inBarrier = false ∧ (doing .reset).bus.keepsVector = true := ⟨[], by decide⟩

/-- With an image that keeps the vector. -/
theorem witness_HostResetLoadsRegistersAndVector_image :
    let s := { doing .reset with bus := { Bus.afterReset with onReset := .image [(0x0200, 7#8)] } }
    s.agenda = [.reset] ∧ s.phase.inBarrier = false ∧ s.bus.keepsVector = true := by decide

/-- On what the CPU had, and on another bus and clock. -/
theorem witness_ConstructionZeroesRegisters :
    ∀ m ∈ [Move.construct .same .same (.divider 1), constructing], (doing m).agenda = [m] ∧
      (doing m).phase.inBarrier = false ∧
      ∃ b c r, m = .construct b c r ∧ r.valid = true := by
  intro m hm
  simp only [List.mem_cons, List.not_mem_nil, or_false] at hm
  rcases hm with rfl | rfl <;> exact ⟨rfl, rfl, _, _, _, rfl, rfl⟩

theorem witness_HostCallsOutsideContractAreRefused :
    (∃ s : State, s.phase = .waiting 2 2 ∧ s.agenda = [.reset]) ∧
    (∃ s : State, s.phase = .waiting 2 2 ∧ s.agenda = [constructing]) ∧
    (∃ s : State, s.agenda = [.reset] ∧ s.phase.inBarrier = false ∧ s.bus.keepsVector = false) ∧
    (∃ s : State, s.agenda = [.construct .same .same (.divider 0)] ∧ s.phase.inBarrier = false) :=
  ⟨⟨{ k5 with agenda := [.reset] }, by decide⟩, ⟨{ k5 with agenda := [constructing] }, by decide⟩,
    ⟨{ doing .reset with bus := { Bus.afterReset with onReset := .image [(0xFFFD, 1#8)] } }, by decide⟩,
    ⟨doing (.construct .same .same (.divider 0)), by decide⟩⟩

/-- With the unmapped opcode at the top of the address space, in the default schedule and as the CPU's listed moves. -/
theorem witness_UnmappedOpcodeHaltsTheCpu :
    ∀ l ∈ [[], [Move.cpu, .cpu]], let s := { at_ 0xFFFF#16 [0xFF#8] [] with agenda := l }
      s.phase = .ready ∧ s.cpuTurn ∧ (decodeOpcode (s.bus.value s.pc)).isNone = true ∧
      ∃ t, step s = .next t ∧ t.cpuTurn := by
  intro l hl
  simp only [List.mem_cons, List.not_mem_nil, or_false] at hl
  rcases hl with rfl | rfl
  · exact ⟨rfl, .inl rfl, rfl, _, rfl, .inl rfl⟩
  · exact ⟨rfl, .inr ⟨_, rfl⟩, rfl, _, rfl, .inr ⟨_, rfl⟩⟩

theorem witness_HaltedLeftOnlyByResetOrConstruction :
    (∃ t, step { doing .reset with phase := .halted 0x02#8 } = .next t ∧ t.phase ≠ .halted 0x02#8) ∧
    (∃ t, step { doing constructing with phase := .halted 0x02#8 } = .next t ∧ t.phase ≠ .halted 0x02#8) :=
  ⟨⟨_, rfl, by decide⟩, ⟨_, rfl, by decide⟩⟩

/-- With an empty agenda, and with the CPU's own move at its head; and each move that can be refused. -/
theorem witness_StepFaultsExactlyWhenHalted :
    step { idle with phase := .halted 0x02#8 } = .fault (.badOpcode 0x02#8) ∧
    step { doing .cpu with phase := .halted 0xFF#8 } = .fault (.badOpcode 0xFF#8) ∧
    step { k5 with agenda := [.reset] } = .refused .hostCallInBarrier ∧
    step { doing .reset with bus := { Bus.afterReset with onReset := .image [(0xFFFD, 1#8)] } } =
      .refused .resetVectorChanged ∧
    step { k5 with agenda := [.construct .same .same (.divider 12)] } = .refused .hostCallInBarrier ∧
    step (doing (.construct .same .same (.divider 0))) = .refused .zeroDivisor ∧
    step (doing (.await 1 (.divider 0) 5)) = .refused .zeroDivisor := ⟨rfl, rfl, rfl, rfl, rfl, rfl, rfl⟩

/-- For each length of an instruction, the longest one wrapping past the top of the address space, in the default schedule and
as the CPU's listed move; and with the operand byte at an address outside RAM, where its value is free. -/
theorem witness_StepRunsDecodedInstruction :
    (let s := at_ 0xFFFE#16 [0x6C#8, 0xFF#8, 0x02#8] []
     s.phase = .ready ∧ s.cpuTurn ∧ fetchedBytes 3 (s.setAgenda s.agenda.tail) = [0x6C#8, 0xFF#8, 0x02#8]) ∧
    decode [0x6C#8, 0xFF#8, 0x02#8] = .ok (.jmpIndirect 0x02FF#16, []) ∧
    (let s := { at_ 0x0600#16 [0xD0#8, 0xFA#8] [] with agenda := [.cpu, .tick] }
     s.phase = .ready ∧ s.cpuTurn ∧ fetchedBytes 2 (s.setAgenda s.agenda.tail) = [0xD0#8, 0xFA#8]) ∧
    decode [0xD0#8, 0xFA#8] = .ok (.bne 0xFA#8, []) ∧
    decode (fetchedBytes 1 (at_ 0x0600#16 [0xEA#8] [])) = .ok (.nop, []) ∧
    (let s := at_ 0x0600#16 [0xA9#8] []
     let d := { s with bus := { s.bus with devices := [⟨0x0601#16, 0x0601#16⟩] } }
     decode (fetchedBytes 2 d) = .ok (.ldaImmediate (Config.busByte 0 0x0601#16), [])) := by
  refine ⟨⟨rfl, .inl rfl, by decide⟩, rfl, ⟨rfl, .inr ⟨_, rfl⟩, by decide⟩, rfl, rfl, rfl⟩

/-- The instruction's own bytes in RAM, the address after them not. -/
theorem witness_StepRunsDecodedInstruction_ram :
    let s := at_ 0x0600#16 [0xA9#8, 0x7F#8] []
    let d := { s with bus := { s.bus with devices := [⟨0x0602#16, 0xFFFF#16⟩] } }
    d.phase = .ready ∧ d.cpuTurn ∧
      (∀ k < (Instr.ldaImmediate 0x7F#8).length, d.bus.isDevice (d.pc + BitVec.ofNat 16 k) = false) ∧
      decode [d.bus.peek d.pc, d.bus.peek (d.pc + 1#16), d.bus.peek (d.pc + 2#16)] =
        .ok (.ldaImmediate 0x7F#8, [0x00#8]) :=
  ⟨rfl, .inl rfl, by decide, rfl⟩

theorem witness_StoreIsSeenByNextFetch : idle.bus.isDevice 0xFFFF#16 = false := by decide

/-- The statements about every instruction's next state: one state in which an instruction answers it. -/
theorem witness_InstructionLeavesOtherAgentsAlone : ∃ t, exec (.staIndirectIndexedY 0xFF#8) idle = .next t := ⟨_, rfl⟩

theorem witness_FlagsWrittenOnlyByListedInstructions : ∃ t, exec .brk idle = .next t ∧
    Instr.brk.row.mnemonic ∉ flagWriters .d := ⟨_, rfl, by decide⟩

theorem witness_RegistersWrittenOnlyByListedInstructions : ∃ t, exec (.incZeropage 0xFF#8) idle = .next t ∧
    ∀ l ∈ [aWriters, xWriters, yWriters, spWriters, pcWriters], (Instr.incZeropage 0xFF#8).row.mnemonic ∉ l :=
  ⟨_, rfl, by decide⟩

/-- For an instruction that is no storing one, and for the accumulator form of one that is. -/
theorem witness_MemoryWrittenOnlyByStoringInstructions :
    (∃ t, exec .rti idle = .next t ∧ Instr.rti.row.mnemonic ∉ memoryWriters) ∧
    (∃ t, exec .rorAccumulator idle = .next t ∧ Instr.rorAccumulator.row.mode = .accumulator) :=
  ⟨⟨_, rfl, by decide⟩, ⟨_, rfl, by decide⟩⟩

/-- With SP where the accesses wrap. -/
theorem witness_StackAccessesStayInTheStackPage :
    (∃ t, exec (.jsr 0x1234#16) idle = .next t ∧
      (Instr.jsr 0x1234#16).row.mnemonic ∈ [Mnemonic.pha, .php, .pla, .plp, .jsr, .rts, .rti]) ∧
    (∃ t, exec .brk { idle with sp := 0x01#8 } = .next t) := ⟨⟨_, rfl, by decide⟩, ⟨_, rfl⟩⟩

/-- A registered CPU: its target lies ahead of the count, the count of its clock is its start. -/
theorem registered_inv : registered.Inv where
  memory := by decide
  image := by intro m h; cases h
  divisor := by decide
  pending := by decide
  reached := by decide
  cpu := ⟨by decide, by decide, by decide, by decide, by decide, by decide⟩
  givenBus := (gives_nothing rfl).1
  givenClock := (gives_nothing rfl).2

theorem released_inv : released.Inv where
  memory := by decide
  image := by intro m h; cases h
  divisor := by decide
  pending := by decide
  reached := by decide
  cpu := ⟨by decide, by decide, by decide, by decide, by decide, by decide⟩
  givenBus := (gives_nothing rfl).1
  givenClock := (gives_nothing rfl).2

theorem drained_inv : drained.Inv where
  memory := by decide
  image := by intro m h; cases h
  divisor := by decide
  pending := by decide
  reached := by decide
  cpu := ⟨by decide, by decide, by decide, by decide, by decide, by decide⟩
  givenBus := (gives_nothing rfl).1
  givenClock := (gives_nothing rfl).2

/-- A Ready CPU whose host is about to construct it on another bus and clock. -/
theorem constructing_inv : (doing constructing).Inv where
  memory := by decide
  image := by intro m h; cases h
  divisor := by decide
  pending := by decide
  reached := by decide
  cpu := show Clock.cpuEntries _ = 0 by decide
  givenBus := by
    intro n c r h
    obtain ⟨rfl, -, -⟩ : _ ∧ _ ∧ _ := by simpa [doing, constructing] using h
    exact ⟨by decide, nofun⟩
  givenClock := by
    intro b n r h
    obtain ⟨-, rfl, -⟩ : _ ∧ _ ∧ _ := by simpa [doing, constructing] using h
    exact ⟨by decide, by decide⟩

/-- A CPU in its barrier, and a `new` on another bus and clock. -/
theorem witness_EveryStepKeepsTheInvariant :
    (registered.Inv ∧ ∃ t, step registered = .next t) ∧
    (doing constructing).Inv ∧ ∃ t, step (doing constructing) = .next t :=
  ⟨⟨registered_inv, _, rfl⟩, constructing_inv, _, rfl⟩

theorem witness_EventHistoryOnlyGrows : ∃ t, step (at_ 0x0600#16 [0x00#8] []) = .next t := ⟨_, rfl⟩

/-- On a running clock, and on a stopped one. -/
theorem witness_TicksNeverDecreaseAndAdvanceOnlyWhileRunning :
    (∃ t, step registered = .next t ∧ registered.clock.running = true) ∧
    (∃ t, step drained = .next t ∧ drained.clock.running = false) ∧
    (∀ s ∈ [registered, drained], ∀ b n r rest, s.agenda ≠ .construct b (.other n) r :: rest) := by
  refine ⟨⟨_, rfl, rfl⟩, ⟨_, rfl, rfl⟩, ?_⟩
  intro s hs
  simp only [List.mem_cons, List.not_mem_nil, or_false] at hs
  rcases hs with rfl | rfl <;> exact nofun

/-- A CPU that a draining stop has released at 40, on the clock started again. -/
def restarted : State := { drained with clock := { drained.clock with running := true, policy := .drain } }

theorem restarted_inv : restarted.Inv where
  memory := by decide
  image := by intro m h; cases h
  divisor := by decide
  pending := by decide
  reached := by decide
  cpu := ⟨by decide, by decide, by decide, by decide, by decide, by decide⟩
  givenBus := (gives_nothing rfl).1
  givenClock := (gives_nothing rfl).2

/-- For a CPU not yet released, for one that has been, and for one that a stop drained before the clock was started again. -/
theorem witness_BarrierEndsAtItsTarget :
    (registered.Inv ∧ registered.agenda = [] ∧ registered.phase = .waiting 2 2 ∧ registered.clock.running = true ∧
      registered.clock.hasReleased .cpu = false) ∧
    (released.Inv ∧ released.agenda = [] ∧ released.phase = .waiting 2 2 ∧ released.clock.running = true ∧
      released.clock.hasReleased .cpu = true ∧
      ∀ r ∈ released.clock.released, r.waiter.caller = .cpu → r.drainedAt = none) ∧
    (restarted.Inv ∧ restarted.agenda = [] ∧ restarted.phase = .waiting 2 2 ∧ restarted.clock.running = true ∧
      restarted.clock.hasReleased .cpu = true ∧ restarted.cpuTicks < 2 + 2) :=
  ⟨⟨registered_inv, by decide⟩, ⟨released_inv, by decide⟩, ⟨restarted_inv, by decide⟩⟩

/-- At the least divisor and cost the statement speaks of, and at K-5's. -/
theorem witness_BarrierLastsItsCyclesOnADivider : (1 ≤ 1 ∧ 1 ≤ 1) ∧
    (let target := (ClockRef.divider 12).toMaster ((ClockRef.divider 12).scale 25 + 2)
     target = 48 ∧ target - 25 = 23 ∧ 2 * 12 - (12 - 1) ≤ 23) := by decide

/-- For a CPU whose target is just reached, and for one whose clock is one short of it. -/
theorem witness_BarrierStepWaitsForItsTarget :
    (let s := { released with agenda := [.cpu] }
     s.Inv ∧ s.phase = .waiting 2 2 ∧ s.agenda = [.cpu] ∧
      (∀ r ∈ s.clock.released, r.waiter.caller = .cpu → r.drainedAt = none) ∧ s.cpuTicks = 2 + 2) ∧
    (let s := { registered with agenda := [.cpu], clock := { registered.clock with ticks := 47, waiters := [] } }
     s.Inv ∧ s.phase = .waiting 2 2 ∧ s.agenda = [.cpu] ∧
      (∀ r ∈ s.clock.released, r.waiter.caller = .cpu → r.drainedAt = none) ∧ s.cpuTicks + 1 = 2 + 2) := by
  refine ⟨⟨⟨by decide, nofun, by decide, by decide, by decide, ?_, (gives_nothing rfl).1, (gives_nothing rfl).2⟩, by decide⟩,
    ⟨⟨by decide, nofun, by decide, by decide, by decide, ?_, (gives_nothing rfl).1, (gives_nothing rfl).2⟩, by decide⟩⟩ <;>
    exact ⟨by decide, by decide, by decide, by decide, by decide, by decide⟩

/-- One master tick short of the target. -/
theorem witness_StoppedClockBlocksTheCpu : let s := { k5 with clock := { Clock.fresh with ticks := 47 } }
    s.agenda = [] ∧ s.phase = .waiting 2 2 ∧ s.clock.running = false ∧ s.clock.hasReleased .cpu = false ∧
      s.clock.ticks < s.cpuClock.toMaster (2 + 2) := by decide

theorem witness_StartAndStopActAsTheSpecSays :
    (doing .start).agenda = [.start] ∧ ((doing .stop).agenda = [.stop] ∧ (doing .stop).clock.running = false) ∧
    { registered with agenda := [.stop] }.agenda = [.stop] := by decide

/-- A tick on a stopped clock, and on a running one that reaches a waiter's target; a stop under each policy. -/
theorem witness_TicksAndStopsReleaseWaiters :
    ((doing .tick).agenda = [.tick] ∧ (doing .tick).clock.running = false) ∧
    (let s := { registered with agenda := [.tick], clock := { registered.clock with ticks := 29 } }
     s.agenda = [.tick] ∧ s.clock.running = true ∧
      ∃ w ∈ s.clock.waiters, w.target = s.clock.ticks + 1) ∧
    (let s := { registered with agenda := [.stop] }
     s.agenda = [.stop] ∧ s.clock.policy = .block ∧ s.clock.waiters ≠ []) ∧
    (let s := { registered with agenda := [.stop], clock := { registered.clock with policy := .drain } }
     s.agenda = [.stop] ∧ s.clock.policy = .drain ∧ s.clock.running = true ∧ s.clock.waiters ≠ []) ∧
    (let s := { drained with agenda := [.cpu] }
     s.phase = .waiting 2 2 ∧ s.agenda = [.cpu] ∧
      ∃ r ∈ s.clock.released, r.waiter.caller = .cpu ∧ r.drainedAt ≠ none) := by decide

/-- On the master and on a divider, each with a target equal to the count and one just past it. -/
theorem witness_AwaitReturnsOrRegisters :
    (∀ c ∈ [(ClockRef.master, 25), (.divider 5, 5)], c.1.valid = true ∧ c.1.toMaster c.2 ≤ k5.clock.ticks) ∧
    (∀ c ∈ [(ClockRef.master, 26), (.divider 5, 6)], c.1.valid = true ∧ k5.clock.ticks < c.1.toMaster c.2) ∧
    { k5 with agenda := [.await 1 (.divider 5) 6] }.agenda = [.await 1 (.divider 5) 6] := by decide

/-- A consumer on the master, one on a divider and one that a draining stop released, each resuming; and one not released. -/
def resuming (c : ClockRef) (target : Nat) (drainedAt : Option Nat) (id : Nat) : State :=
  { registered with agenda := [.resume id], clock := { registered.clock with
      released := [⟨⟨.consumer 1, c, target⟩, drainedAt⟩] } }

theorem witness_AwaitReturnsOrRegisters_resume :
    (∀ c ∈ [(ClockRef.master, 25, none), (.divider 5, 25, none), (.master, 40, some 20), (.divider 5, 40, some 20)],
      (resuming c.1 c.2.1 c.2.2 1).Inv ∧ (resuming c.1 c.2.1 c.2.2 1).clock.hasReleased (.consumer 1) = true ∧
      (resuming c.1 c.2.1 c.2.2 1).agenda = [.resume 1]) ∧
    (resuming .master 25 none 2).clock.hasReleased (.consumer 2) = false := by
  refine ⟨?_, by decide⟩
  intro c hc
  simp only [List.mem_cons, List.not_mem_nil, or_false] at hc
  rcases hc with rfl | rfl | rfl | rfl <;>
    exact ⟨⟨by decide, nofun, by decide, by decide, by decide,
      ⟨by decide, by decide, by decide, by decide, by decide, by decide⟩,
      (gives_nothing rfl).1, (gives_nothing rfl).2⟩, by decide, by decide⟩

theorem witness_OtherAgentsAccessOnlyTheBus :
    (doing (.otherWrite 0xFFFF#16 1#8)).agenda = [.otherWrite 0xFFFF#16 1#8] ∧
    (doing (.otherRead 0x0000#16)).agenda = [.otherRead 0x0000#16] ∧
    (doing (.otherWrite 0xFFFF#16 1#8)).bus.isDevice 0xFFFF#16 = false ∧
    (let d := { doing (.otherWrite 0xFFFF#16 1#8) with bus := { Bus.afterReset with devices := [⟨0xFFFF#16, 0xFFFF#16⟩] } }
     d.agenda = [.otherWrite 0xFFFF#16 1#8] ∧ d.bus.isDevice 0xFFFF#16 = true) := by decide

/-- At both ends of the packed BCD bytes. -/
theorem witness_BcdOfValidDigits : isBcd 0x00#8 ∧ isBcd 0x99#8 := by
  refine ⟨⟨?_, ?_⟩, ⟨?_, ?_⟩⟩ <;> decide

/-- The pointer clauses where they wrap: z = 0xFF, and z + X = 0x100. -/
theorem witness_ZeroPageModesWrapWithinThePage :
    (let s := { idle with x := 0x01#8 }
     (0x0000#16).toNat = ((0xFF#8).toNat + s.x.toNat) % 256 ∧ (0x0001#16).toNat = ((0xFF#8).toNat + s.x.toNat + 1) % 256) ∧
    ((0x00FF#16).toNat = (0xFF#8).toNat ∧ (0x0000#16).toNat = ((0xFF#8).toNat + 1) % 256) := by decide

/-- The pointer's high byte where it wraps, just before, and at the top of the address space. -/
theorem witness_AbsoluteModesAndTheIndirectPageWrap :
    ∀ c ∈ [(0x02FF#16, 0x0200#16), (0x02FE#16, 0x02FF#16), (0xFFFF#16, 0xFF00#16)],
      c.2.toNat = (if c.1.toNat % 256 = 255 then c.1.toNat - 255 else c.1.toNat + 1) := by
  simp

theorem witness_OperandReadIsOneTransaction : (∀ v, Operand.indirectIndexedY 0xFF#8 ≠ .immediate v) ∧
    idle.bus.isDevice (locate (.indirectIndexedY 0xFF#8) idle).addr = false := ⟨fun _ => nofun, by decide⟩

/-- The operand hypotheses of the families' statements: one form of each mnemonic, every addressing mode among them. -/
theorem witness_operand_forms : (
    [ (Instr.ldaIndexedIndirectX 0xFF#8, Mnemonic.lda), (.ldxZeropageY 0xFF#8, .ldx), (.ldyImmediate 0x00#8, .ldy),
      (.staIndirectIndexedY 0xFF#8, .sta), (.stxZeropageY 0xFF#8, .stx), (.styAbsolute 0xFFFF#16, .sty),
      (.andAbsoluteX 0xFFFF#16, .and), (.eorAbsoluteY 0xFFFF#16, .eor), (.oraZeropageX 0xFF#8, .ora),
      (.bitZeropage 0x00#8, .bit), (.adcImmediate 0x99#8, .adc), (.sbcIndirectIndexedY 0x00#8, .sbc),
      (.cmpAbsoluteY 0xFFFF#16, .cmp), (.cpxImmediate 0x80#8, .cpx), (.cpyAbsolute 0x0000#16, .cpy),
      (.incAbsoluteX 0xFFFF#16, .inc), (.decZeropageX 0xFF#8, .dec) ] :
      List (Instr × Mnemonic)).all (fun c => (operandOf c.1).isSome && c.1.row.mnemonic == c.2) = true := by decide

theorem witness_StoresAndComparisons :
    [Mnemonic.sta, .stx, .sty, .cmp, .cpx, .cpy].all (fun m => (comparedOrStored m idle).isSome) = true := by decide

/-- The byte an increment or a decrement writes, where it wraps. -/
theorem witness_MemoryIncrementsAndDecrements :
    (let s := { idle with bus := { idle.bus with mem := ram [(0x0010, 0xFF#8)] } }
     let ea := locate (.zeropage 0x10#8) s
     (0x00#8).toNat = ((ea.state.bus.value ea.addr).toNat + 1) % 256) ∧
    (let ea := locate (.zeropage 0x10#8) idle
     (0xFF#8).toNat = ((ea.state.bus.value ea.addr).toNat + 255) % 256) := by decide

theorem witness_RegisterIncrementsAndDecrements : let s := { idle with x := 0xFF#8, y := 0x00#8 }
    (0x00#8).toNat = (s.x.toNat + 1) % 256 ∧ (0x01#8).toNat = (s.y.toNat + 1) % 256 ∧
    (0xFE#8).toNat = (s.x.toNat + 255) % 256 ∧ (0xFF#8).toNat = (s.y.toNat + 255) % 256 := by decide

theorem witness_AccumulatorShiftsAndRotates :
    [Instr.aslAccumulator, .lsrAccumulator, .rolAccumulator, .rorAccumulator].all (fun i => i.row.mode == .accumulator &&
      (shiftSpec i.row.mnemonic 0x81#8 true).isSome) = true ∧
    shiftSpec .rol 0x81#8 true = some (0x03#8, true) ∧ shiftSpec .ror 0x81#8 true = some (0xC0#8, true) := by decide

theorem witness_MemoryShiftsAndRotates :
    [Instr.aslZeropage 0xFF#8, .lsrAbsoluteX 0xFFFF#16, .rolZeropageX 0xFF#8, .rorAbsolute 0xFFFF#16].all (fun i =>
      (operandOf i).isSome && (shiftSpec i.row.mnemonic 0x80#8 false).isSome) = true := by decide

/-- A taken and an untaken branch, backwards across the bottom of the address space. -/
theorem witness_BranchesFollowTheirCondition :
    let s := { idle with pc := 0x0002#16 }
    operandOf (.bne 0x80#8) = some (.relative 0x80#8) ∧ operandOf (.beq 0x80#8) = some (.relative 0x80#8) ∧
    (((0xFF82#16).toNat : Int) = ((s.pc.toNat : Int) + (0x80#8).toInt) % 65536) ∧
    branchCondition .bne s.p = true ∧ branchCondition .beq s.p = false := by decide

theorem rti_answers (t : State) : ∃ u, exec .rti t = .next u := ⟨_, rfl⟩

/-- With SP where the pushes wrap. -/
theorem witness_PullsGiveBackWhatPushesStored :
    let s := { idle with sp := 0x00#8 }
    (∀ sp : Byte, s.bus.isDevice (stackAddr sp) = false) ∧
    (∃ t u, exec .pha s = .next t ∧ exec .pla t = .next u) ∧
    (∃ t u, exec (.jsr 0xFFFF#16) s = .next t ∧ exec .rts t = .next u) ∧
    (∃ t u, exec .brk s = .next t ∧ exec .rti t = .next u) :=
  ⟨fun _ => rfl, ⟨_, _, rfl, rfl⟩, ⟨_, _, rfl, rfl⟩, ⟨_, (rti_answers _).choose, rfl, (rti_answers _).choose_spec⟩⟩

end Sys2Proof.Tests
end

section
/-! PROOFS. What one instruction can reach (`00_scope.md` R19, `20_memory.md` R42, `40_fetch_execute.md` R75): the
registers, the phase, and the bus by transactions of the CPU's own. -/

namespace Sys2Proof.Machine

/-- The bus has gone from one state to the other by the CPU's `fetch` and `store` alone (R42). -/
inductive Bus.Accessed (b : Bus) : Bus → Prop
  | refl : Accessed b b
  | read {c : Bus} (h : Accessed b c) (a : Word) : Accessed b (c.afterRead a)
  | write {c : Bus} (h : Accessed b c) (a : Word) (v : Byte) : Accessed b (c.afterWrite a v)

theorem Bus.Accessed.trans {b c d : Bus} (hbc : b.Accessed c) (hcd : c.Accessed d) : b.Accessed d := by
  induction hcd with
  | refl => exact hbc
  | read _ a ih => exact ih.read a
  | write _ a v ih => exact ih.write a v

theorem Bus.Accessed.devices_eq {b c : Bus} (h : b.Accessed c) : c.devices = b.devices := by
  induction h with
  | refl => rfl
  | read _ a ih => rw [afterRead_devices, ih]
  | write _ a v ih => rw [afterWrite_devices, ih]

theorem Bus.Accessed.onReset_eq {b c : Bus} (h : b.Accessed c) : c.onReset = b.onReset := by
  induction h with
  | refl => rfl
  | read _ a ih => rw [afterRead_onReset, ih]
  | write _ a v ih => rw [afterWrite_onReset, ih]

/-- The event history has grown by transactions of the CPU's own. -/
theorem Bus.Accessed.history_eq_append {b c : Bus} (h : b.Accessed c) :
    ∃ evs, c.history = evs ++ b.history ∧ ∀ e ∈ evs, e.isCpu = true := by
  induction h with
  | refl => exact ⟨[], rfl, nofun⟩
  | @read c _ a ih =>
    obtain ⟨evs, hhist, hcpu⟩ := ih
    exact ⟨.read a (c.value a) :: evs, by rw [afterRead_history, hhist, List.cons_append],
      List.forall_mem_cons.2 ⟨rfl, hcpu⟩⟩
  | write _ a v ih =>
    obtain ⟨evs, hhist, hcpu⟩ := ih
    exact ⟨.write a v :: evs, by rw [afterWrite_history, hhist, List.cons_append],
      List.forall_mem_cons.2 ⟨rfl, hcpu⟩⟩

/-- The frame of an instruction: outside the registers and the phase only the bus may differ, by the CPU's own accesses. -/
structure CpuFrame (s t : State) : Prop where
  clock : t.clock = s.clock
  cpuClock : t.cpuClock = s.cpuClock
  agenda : t.agenda = s.agenda
  lastReturn : t.lastReturn = s.lastReturn
  bus : s.bus.Accessed t.bus

theorem CpuFrame.trans {s t u : State} (hst : CpuFrame s t) (htu : CpuFrame t u) : CpuFrame s u where
  clock := htu.clock.trans hst.clock
  cpuClock := htu.cpuClock.trans hst.cpuClock
  agenda := htu.agenda.trans hst.agenda
  lastReturn := htu.lastReturn.trans hst.lastReturn
  bus := hst.bus.trans htu.bus

/-- Registers and phase may take any value within the frame. -/
theorem CpuFrame.of_registers (s : State) (a x y sp p : Byte) (pc : Word) (phase : Phase) :
    CpuFrame s { s with a := a, x := x, y := y, sp := sp, p := p, pc := pc, phase := phase } :=
  ⟨rfl, rfl, rfl, rfl, .refl⟩

theorem setBus_cpuFrame {s : State} {b : Bus} (h : s.bus.Accessed b) : CpuFrame s (s.setBus b) :=
  ⟨rfl, rfl, rfl, rfl, h⟩

theorem busWrite_cpuFrame (a : Word) (v : Byte) (s : State) : CpuFrame s (busWrite a v s) :=
  setBus_cpuFrame (.write .refl a v)

theorem push_cpuFrame (v : Byte) (s : State) : CpuFrame s (push v s) :=
  (busWrite_cpuFrame _ v s).trans (.of_registers ..)

theorem push16_cpuFrame (v : Word) (s : State) : CpuFrame s (push16 v s) :=
  (push_cpuFrame (hi v) s).trans (push_cpuFrame (lo v) _)

theorem pull_cpuFrame (s : State) : CpuFrame s (pull s).2 :=
  (CpuFrame.of_registers s ..).trans (setBus_cpuFrame (.read .refl _))

theorem pull16_cpuFrame (s : State) : CpuFrame s (pull16 s).2 :=
  (pull_cpuFrame s).trans (pull_cpuFrame _)

theorem takeException_cpuFrame (ret : Word) (s : State) : CpuFrame s (takeException ret s) := by
  have hpushes : s.bus.Accessed (exceptionPushes ret s) := ((Bus.Accessed.refl.write ..).write ..).write ..
  rw [takeException_eq]
  exact (setBus_cpuFrame ((hpushes.read _).read _)).trans (.of_registers ..)

theorem returnFromException_cpuFrame (s : State) : CpuFrame s (returnFromException s) := by
  rw [returnFromException_eq]
  exact (setBus_cpuFrame (((Bus.Accessed.refl.read _).read _).read _)).trans (.of_registers ..)

/-- An addressing mode reads its pointer, if it has one, and no more. -/
theorem locate_accessed (o : Operand) (s : State) : s.bus.Accessed (locate o s).state.bus := by
  cases o with
  | indirect _ | indexedIndirectX _ | indirectIndexedY _ => exact (Bus.Accessed.refl.read _).read _
  | _ => exact .refl

theorem load_cpuFrame (o : Operand) (s : State) : CpuFrame s (load o s).state := by
  rw [load_state]
  cases o with
  | immediate _ => exact setBus_cpuFrame .refl
  | _ => exact setBus_cpuFrame ((locate_accessed _ s).read _)

/-- An instruction run from `s` completes, in a next state within the frame. -/
def CompletesInFrame (s : State) (r : Result) : Prop := ∃ t, r = .next t ∧ CpuFrame s t

theorem done_completesInFrame {s t : State} (c : Nat) (h : CpuFrame s t) : CompletesInFrame s (done c t) :=
  ⟨_, done_eq c t, h.trans (.of_registers ..)⟩

theorem readInstr_completesInFrame (base : Nat) (o : Operand) {f : Byte → State → State}
    (hf : ∀ v u, CpuFrame u (f v u)) (s : State) : CompletesInFrame s (readInstr base o f s) :=
  done_completesInFrame _ ((load_cpuFrame o s).trans (hf _ _))

theorem writeInstr_completesInFrame (base : Nat) (o : Operand) (v : Byte) (s : State) :
    CompletesInFrame s (writeInstr base o v s) := by
  rw [writeInstr_eq]
  exact done_completesInFrame base (setBus_cpuFrame ((locate_accessed o s).write _ v))

theorem modifyInstr_completesInFrame (base : Nat) (o : Operand) (f : Byte → Byte → Byte × Byte) (s : State) :
    CompletesInFrame s (modifyInstr base o f s) := by
  rw [modifyInstr_eq]
  have haccesses := ((locate_accessed o s).read (locate o s).addr).write (locate o s).addr
  exact done_completesInFrame base ((setBus_cpuFrame (haccesses _)).trans (.of_registers ..))

theorem accumulatorInstr_completesInFrame (f : Byte → Byte → Byte × Byte) (s : State) :
    CompletesInFrame s (accumulatorInstr f s) :=
  done_completesInFrame 2 (.of_registers s ..)

theorem jumpInstr_completesInFrame (base : Nat) (o : Operand) (s : State) :
    CompletesInFrame s (jumpInstr base o s) := by
  rw [jumpInstr_eq]
  exact done_completesInFrame base ((setBus_cpuFrame (locate_accessed o s)).trans (.of_registers ..))

theorem branchInstr_completesInFrame (taken : Bool) (off : Byte) (s : State) :
    CompletesInFrame s (branchInstr taken off s) := by
  rw [branchInstr_eq]
  exact done_completesInFrame _ (.of_registers s ..)

/-- Every instruction completes within the frame; the cases are the instruction shapes (`40_fetch_execute.md` R79). -/
theorem exec_completesInFrame (i : Instr) (s : State) : CompletesInFrame s (exec i s) := by
  cases i with
  | oraIndexedIndirectX _ | oraZeropage _ | oraImmediate _ | oraAbsolute _ | oraIndirectIndexedY _
  | oraZeropageX _ | oraAbsoluteY _ | oraAbsoluteX _ | andIndexedIndirectX _ | bitZeropage _ | andZeropage _
  | andImmediate _ | bitAbsolute _ | andAbsolute _ | andIndirectIndexedY _ | andZeropageX _ | andAbsoluteY _
  | andAbsoluteX _ | eorIndexedIndirectX _ | eorZeropage _ | eorImmediate _ | eorAbsolute _
  | eorIndirectIndexedY _ | eorZeropageX _ | eorAbsoluteY _ | eorAbsoluteX _ | adcIndexedIndirectX _
  | adcZeropage _ | adcImmediate _ | adcAbsolute _ | adcIndirectIndexedY _ | adcZeropageX _ | adcAbsoluteY _
  | adcAbsoluteX _ | ldyImmediate _ | ldaIndexedIndirectX _ | ldxImmediate _ | ldyZeropage _ | ldaZeropage _
  | ldxZeropage _ | ldaImmediate _ | ldyAbsolute _ | ldaAbsolute _ | ldxAbsolute _ | ldaIndirectIndexedY _
  | ldyZeropageX _ | ldaZeropageX _ | ldxZeropageY _ | ldaAbsoluteY _ | ldyAbsoluteX _ | ldaAbsoluteX _
  | ldxAbsoluteY _ | cpyImmediate _ | cmpIndexedIndirectX _ | cpyZeropage _ | cmpZeropage _ | cmpImmediate _
  | cpyAbsolute _ | cmpAbsolute _ | cmpIndirectIndexedY _ | cmpZeropageX _ | cmpAbsoluteY _ | cmpAbsoluteX _
  | cpxImmediate _ | sbcIndexedIndirectX _ | cpxZeropage _ | sbcZeropage _ | sbcImmediate _ | cpxAbsolute _
  | sbcAbsolute _ | sbcIndirectIndexedY _ | sbcZeropageX _ | sbcAbsoluteY _ | sbcAbsoluteX _ =>
    exact readInstr_completesInFrame _ _ (fun _ u => .of_registers u ..) s
  | staIndexedIndirectX _ | styZeropage _ | staZeropage _ | stxZeropage _ | styAbsolute _ | staAbsolute _
  | stxAbsolute _ | staIndirectIndexedY _ | styZeropageX _ | staZeropageX _ | stxZeropageY _ | staAbsoluteY _
  | staAbsoluteX _ =>
    exact writeInstr_completesInFrame _ _ _ s
  | aslZeropage _ | aslAbsolute _ | aslZeropageX _ | aslAbsoluteX _ | rolZeropage _ | rolAbsolute _
  | rolZeropageX _ | rolAbsoluteX _ | lsrZeropage _ | lsrAbsolute _ | lsrZeropageX _ | lsrAbsoluteX _
  | rorZeropage _ | rorAbsolute _ | rorZeropageX _ | rorAbsoluteX _ | decZeropage _ | decAbsolute _
  | decZeropageX _ | decAbsoluteX _ | incZeropage _ | incAbsolute _ | incZeropageX _ | incAbsoluteX _ =>
    exact modifyInstr_completesInFrame _ _ _ s
  | aslAccumulator | lsrAccumulator | rolAccumulator | rorAccumulator =>
    exact accumulatorInstr_completesInFrame _ s
  | jmpAbsolute _ | jmpIndirect _ => exact jumpInstr_completesInFrame _ _ s
  | bpl _ | bmi _ | bvc _ | bvs _ | bcc _ | bcs _ | bne _ | beq _ => exact branchInstr_completesInFrame _ _ s
  | tax | tay | txa | tya | tsx | txs | inx | iny | dex | dey | clc | cld | cli | clv | sec | sed | sei | nop =>
    exact done_completesInFrame 2 (.of_registers s ..)
  | pha | php => exact done_completesInFrame 3 (push_cpuFrame _ s)
  | pla | plp => exact done_completesInFrame 4 ((pull_cpuFrame s).trans (.of_registers ..))
  | jsr _ => exact done_completesInFrame 6 ((push16_cpuFrame _ s).trans (.of_registers ..))
  | rts => exact done_completesInFrame 6 ((pull16_cpuFrame s).trans (.of_registers ..))
  | brk => exact done_completesInFrame 7 (takeException_cpuFrame _ s)
  | rti => exact done_completesInFrame 6 (returnFromException_cpuFrame s)

/-- The frame of `exec`, for any next state it answers. -/
theorem exec_cpuFrame {i : Instr} {s t : State} (h : exec i s = .next t) : CpuFrame s t := by
  obtain ⟨u, hu, hframe⟩ := exec_completesInFrame i s
  obtain rfl : u = t := Host.Outcome.next.inj (hu.symm.trans h)
  exact hframe

/-- Settles O15: the frame of `exec`, with what the CPU's accesses leave of the bus and add to its history. -/
theorem instructionLeavesOtherAgentsAlone : Obligations.InstructionLeavesOtherAgentsAlone := by
  intro i s t h
  obtain ⟨hclock, hcpuClock, hagenda, hlastReturn, hbus⟩ := exec_cpuFrame h
  exact ⟨hclock, hcpuClock, hagenda, hlastReturn, hbus.devices_eq, hbus.onReset_eq, hbus.history_eq_append⟩

end Sys2Proof.Machine
end

section
/-! PROOFS. What one instruction writes and costs: no register (`10_state.md` R21 to R23, R28) and no flag (R26) but those
the spec names it for, and 2 to 7 cycles of the CPU's clock (`40_fetch_execute.md` R75, R78). -/

namespace Sys2Proof.Machine

/-- A mnemonic may turn the status byte `p` into `q`: no flag differs but those that R26 lists it for. -/
def StatusWritable (m : Mnemonic) (p q : Byte) : Prop := ∀ f, m ∉ flagWriters f → getFlag f q = getFlag f p

theorem StatusWritable.refl (m : Mnemonic) (p : Byte) : StatusWritable m p p := fun _ _ => rfl

theorem StatusWritable.setFlag {m : Mnemonic} {p q : Byte} {g : Flag} (h : StatusWritable m p q)
    (hm : m ∈ flagWriters g) (b : Bool) : StatusWritable m p (setFlag g b q) := by
  intro f hf
  have hne : f ≠ g := by
    rintro rfl
    exact hf hm
  rw [getFlag_setFlag, if_neg hne, h f hf]

theorem StatusWritable.setZN {m : Mnemonic} {p q : Byte} (h : StatusWritable m p q) (hz : m ∈ flagWriters .z)
    (hn : m ∈ flagWriters .n) (v : Byte) : StatusWritable m p (setZN v q) :=
  (h.setFlag hz _).setFlag hn _

/-- PLP and RTI load all of P. -/
theorem StatusWritable.of_writesAll {m : Mnemonic} (hm : ∀ f, m ∈ flagWriters f) (p q : Byte) : StatusWritable m p q :=
  fun f hf => absurd (hm f) hf

/-- From `s` to `t` no register and no flag differs but those the spec lists the mnemonic for; PC is the post-operand PC. -/
structure WritesListed (m : Mnemonic) (s t : State) : Prop where
  a : m ∉ aWriters → t.a = s.a
  x : m ∉ xWriters → t.x = s.x
  y : m ∉ yWriters → t.y = s.y
  sp : m ∉ spWriters → t.sp = s.sp
  pc : m ∉ pcWriters → t.pc = s.pc
  status : StatusWritable m s.p t.p

section
variable {m : Mnemonic} {s t : State}

theorem WritesListed.refl (m : Mnemonic) (s : State) : WritesListed m s s :=
  ⟨fun _ => rfl, fun _ => rfl, fun _ => rfl, fun _ => rfl, fun _ => rfl, .refl m s.p⟩

theorem WritesListed.setA (h : WritesListed m s t) (hm : m ∈ aWriters) (v : Byte) : WritesListed m s (t.setA v) :=
  { h with a := fun hn => absurd hm hn }

theorem WritesListed.setX (h : WritesListed m s t) (hm : m ∈ xWriters) (v : Byte) : WritesListed m s (t.setX v) :=
  { h with x := fun hn => absurd hm hn }

theorem WritesListed.setY (h : WritesListed m s t) (hm : m ∈ yWriters) (v : Byte) : WritesListed m s (t.setY v) :=
  { h with y := fun hn => absurd hm hn }

theorem WritesListed.setSP (h : WritesListed m s t) (hm : m ∈ spWriters) (v : Byte) : WritesListed m s (t.setSP v) :=
  { h with sp := fun hn => absurd hm hn }

theorem WritesListed.setPC (h : WritesListed m s t) (hm : m ∈ pcWriters) (v : Word) : WritesListed m s (t.setPC v) :=
  { h with pc := fun hn => absurd hm hn }

theorem WritesListed.setP (h : WritesListed m s t) {q : Byte} (hq : StatusWritable m s.p q) :
    WritesListed m s (t.setP q) :=
  { h with status := hq }

theorem WritesListed.setBus (h : WritesListed m s t) (b : Bus) : WritesListed m s (t.setBus b) := { h with }

theorem WritesListed.finish (h : WritesListed m s t) (c : Nat) : WritesListed m s (t.finish c) := { h with }

end

/-- An instruction of this mnemonic, run from `s`, ends at a legal cost, with nothing written but what it is listed for. -/
def EndsListed (m : Mnemonic) (s : State) (r : Result) : Prop :=
  ∃ c t, r = done c t ∧ 2 ≤ c ∧ c ≤ 7 ∧ WritesListed m s t

section
variable {m : Mnemonic} {base : Nat} (hlow : 2 ≤ base)
include hlow

theorem done_endsListed {s t : State} (hhigh : base ≤ 7) (h : WritesListed m s t) : EndsListed m s (done base t) :=
  ⟨base, t, rfl, hlow, hhigh, h⟩

theorem readInstr_endsListed {f : Byte → State → State} (hhigh : base ≤ 6) (hf : ∀ v u, WritesListed m u (f v u))
    (o : Operand) (s : State) : EndsListed m s (readInstr base o f s) := by
  have hpage : pageCycle (locate o s).crossed ≤ 1 := by
    unfold pageCycle
    split <;> omega
  rw [readInstr_eq, load_state]
  refine done_endsListed (base := base + _) (by omega) (by omega) ?_
  exact { hf _ (s.setBus _) with }

theorem writeInstr_endsListed (hhigh : base ≤ 7) (o : Operand) (v : Byte) (s : State) :
    EndsListed m s (writeInstr base o v s) := by
  rw [writeInstr_eq]
  exact done_endsListed hlow hhigh (.setBus (.refl m s) _)

theorem modifyInstr_endsListed {f : Byte → Byte → Byte × Byte} (hhigh : base ≤ 7)
    (hf : ∀ v p, StatusWritable m p (f v p).2) (o : Operand) (s : State) :
    EndsListed m s (modifyInstr base o f s) := by
  rw [modifyInstr_eq]
  exact done_endsListed hlow hhigh (((WritesListed.refl m s).setBus _).setP (hf _ s.p))

theorem jumpInstr_endsListed (hhigh : base ≤ 7) (hm : m ∈ pcWriters) (o : Operand) (s : State) :
    EndsListed m s (jumpInstr base o s) := by
  rw [jumpInstr_eq]
  exact done_endsListed hlow hhigh (((WritesListed.refl m s).setBus _).setPC hm _)

end

theorem accumulatorInstr_endsListed {m : Mnemonic} {f : Byte → Byte → Byte × Byte} (hm : m ∈ aWriters)
    (hf : ∀ v p, StatusWritable m p (f v p).2) (s : State) : EndsListed m s (accumulatorInstr f s) :=
  done_endsListed (by decide) (by decide) (((WritesListed.refl m s).setA hm _).setP (hf s.a s.p))

theorem branchInstr_endsListed {m : Mnemonic} (hm : m ∈ pcWriters) (taken : Bool) (off : Byte) (s : State) :
    EndsListed m s (branchInstr taken off s) := by
  have hcycles : 2 ≤ branchCycles taken (s.pc + sext16 off) s.pc ∧
      branchCycles taken (s.pc + sext16 off) s.pc ≤ 7 := by
    unfold branchCycles
    split
    · split <;> omega
    · omega
  rw [branchInstr_eq]
  exact done_endsListed hcycles.1 hcycles.2 (.setPC (.refl m s) hm _)

/-! The operation of each mnemonic whose instructions have one of the shapes of R79. -/

theorem loadA_writesListed (v : Byte) (s : State) : WritesListed .lda s (loadA v s) :=
  ((WritesListed.refl _ s).setA (by decide) v).setP (.setZN (.refl _ _) (by decide) (by decide) v)

theorem loadX_writesListed (v : Byte) (s : State) : WritesListed .ldx s (loadX v s) :=
  ((WritesListed.refl _ s).setX (by decide) v).setP (.setZN (.refl _ _) (by decide) (by decide) v)

theorem loadY_writesListed (v : Byte) (s : State) : WritesListed .ldy s (loadY v s) :=
  ((WritesListed.refl _ s).setY (by decide) v).setP (.setZN (.refl _ _) (by decide) (by decide) v)

theorem andA_writesListed (v : Byte) (s : State) : WritesListed .and s (andA v s) :=
  ((WritesListed.refl _ s).setA (by decide) _).setP (.setZN (.refl _ _) (by decide) (by decide) _)

theorem eorA_writesListed (v : Byte) (s : State) : WritesListed .eor s (eorA v s) :=
  ((WritesListed.refl _ s).setA (by decide) _).setP (.setZN (.refl _ _) (by decide) (by decide) _)

theorem oraA_writesListed (v : Byte) (s : State) : WritesListed .ora s (oraA v s) :=
  ((WritesListed.refl _ s).setA (by decide) _).setP (.setZN (.refl _ _) (by decide) (by decide) _)

theorem bitA_writesListed (v : Byte) (s : State) : WritesListed .bit s (bitA v s) :=
  (WritesListed.refl _ s).setP
    ((((StatusWritable.refl _ _).setFlag (by decide) _).setFlag (by decide) _).setFlag (by decide) _)

/-- The status of an addition or subtraction (R103). -/
theorem arithStatus_writable {m : Mnemonic} (hm : ∀ f ∈ [Flag.c, .v, .z, .n], m ∈ flagWriters f) (r : Byte) (c v : Bool)
    (p : Byte) : StatusWritable m p (arithStatus r c v p) :=
  (((StatusWritable.refl m p).setFlag (hm .c (by decide)) c).setFlag (hm .v (by decide)) v).setZN
    (hm .z (by decide)) (hm .n (by decide)) r

theorem adcA_writesListed (v : Byte) (s : State) : WritesListed .adc s (adcA v s) :=
  ((WritesListed.refl _ s).setA (by decide) _).setP (arithStatus_writable (by decide) _ _ _ _)

theorem sbcA_writesListed (v : Byte) (s : State) : WritesListed .sbc s (sbcA v s) :=
  ((WritesListed.refl _ s).setA (by decide) _).setP (arithStatus_writable (by decide) _ _ _ _)

/-- The status after a result `r` with a carry: of a shift or rotate (R100) and of a comparison (R127). -/
theorem carryZN_writable {m : Mnemonic} (hm : ∀ f ∈ [Flag.c, .z, .n], m ∈ flagWriters f) (r : Byte) (c : Bool) (p : Byte) :
    StatusWritable m p (setZN r (setFlag .c c p)) :=
  ((StatusWritable.refl m p).setFlag (hm .c (by decide)) c).setZN (hm .z (by decide)) (hm .n (by decide)) r

theorem cmpA_writesListed (v : Byte) (s : State) : WritesListed .cmp s (cmpA v s) :=
  (WritesListed.refl _ s).setP (carryZN_writable (by decide) _ _ _)

theorem cmpX_writesListed (v : Byte) (s : State) : WritesListed .cpx s (cmpX v s) :=
  (WritesListed.refl _ s).setP (carryZN_writable (by decide) _ _ _)

theorem cmpY_writesListed (v : Byte) (s : State) : WritesListed .cpy s (cmpY v s) :=
  (WritesListed.refl _ s).setP (carryZN_writable (by decide) _ _ _)

theorem aslResult_writable (v p : Byte) : StatusWritable .asl p (aslResult v p).2 := carryZN_writable (by decide) _ _ _
theorem lsrResult_writable (v p : Byte) : StatusWritable .lsr p (lsrResult v p).2 := carryZN_writable (by decide) _ _ _
theorem rolResult_writable (v p : Byte) : StatusWritable .rol p (rolResult v p).2 := carryZN_writable (by decide) _ _ _
theorem rorResult_writable (v p : Byte) : StatusWritable .ror p (rorResult v p).2 := carryZN_writable (by decide) _ _ _

theorem incResult_writable (v p : Byte) : StatusWritable .inc p (incResult v p).2 :=
  .setZN (.refl _ p) (by decide) (by decide) _

theorem decResult_writable (v p : Byte) : StatusWritable .dec p (decResult v p).2 :=
  .setZN (.refl _ p) (by decide) (by decide) _

/-! The instructions that have a meaning of their own. -/

theorem push_writesListed {m : Mnemonic} (hm : m ∈ spWriters) (v : Byte) (s : State) : WritesListed m s (push v s) :=
  ((WritesListed.refl m s).setBus _).setSP hm _

theorem pull_writesListed {m : Mnemonic} (hm : m ∈ spWriters) (s : State) : WritesListed m s (pull s).2 :=
  ((WritesListed.refl m s).setSP hm _).setBus _

theorem takeException_writesListed (ret : Word) (s : State) : WritesListed .brk s (takeException ret s) := by
  rw [takeException_eq]
  exact ((((WritesListed.refl _ s).setSP (by decide) _).setP (.setFlag (.refl _ _) (by decide) _)).setBus _).setPC
    (by decide) _

theorem returnFromException_writesListed (s : State) : WritesListed .rti s (returnFromException s) := by
  have hall : ∀ f, Mnemonic.rti ∈ flagWriters f := by intro f; cases f <;> decide
  rw [returnFromException_eq]
  exact ((((WritesListed.refl _ s).setSP (by decide) _).setP (.of_writesAll hall _ _)).setBus _).setPC (by decide) _

/-- INX, INY, DEX, DEY and the transfers but TXS end with Z and N from the byte they wrote. -/
theorem done_setZN_endsListed {m : Mnemonic} {s t : State} (h : WritesListed m s t) (hz : m ∈ flagWriters .z)
    (hn : m ∈ flagWriters .n) (v : Byte) : EndsListed m s (done 2 (t.setP (setZN v s.p))) :=
  done_endsListed (by decide) (by decide) (h.setP (.setZN (.refl m s.p) hz hn v))

/-- The flag instructions. -/
theorem done_setFlag_endsListed {m : Mnemonic} {g : Flag} (hm : m ∈ flagWriters g) (b : Bool) (s : State) :
    EndsListed m s (done 2 (s.setP (setFlag g b s.p))) :=
  done_endsListed (by decide) (by decide) (.setP (.refl m s) (.setFlag (.refl m s.p) hm b))

theorem execPlp_endsListed (s : State) : EndsListed .plp s (execPlp s) := by
  have hall : ∀ f, Mnemonic.plp ∈ flagWriters f := by intro f; cases f <;> decide
  exact done_endsListed (by decide) (by decide) ((pull_writesListed (by decide) s).setP (.of_writesAll hall _ _))

theorem execJsr_endsListed (addr : Word) (s : State) : EndsListed .jsr s (execJsr addr s) :=
  done_endsListed (by decide) (by decide)
    ((((WritesListed.refl _ s).setBus _).setSP (by decide) _).setPC (by decide) addr)

theorem execRts_endsListed (s : State) : EndsListed .rts s (execRts s) :=
  done_endsListed (by decide) (by decide)
    ((((WritesListed.refl _ s).setSP (by decide) _).setBus _).setPC (by decide) _)

/-- Every instruction ends at a cost of 2 to 7 cycles with nothing written but what the spec lists it for; the cases are
its operation or, where it has none of the shapes of R79, the instruction itself. -/
theorem exec_endsListed (i : Instr) (s : State) : EndsListed i.row.mnemonic s (exec i s) := by
  cases i with
  | ldaIndexedIndirectX _ | ldaZeropage _ | ldaImmediate _ | ldaAbsolute _ | ldaIndirectIndexedY _ | ldaZeropageX _
  | ldaAbsoluteY _ | ldaAbsoluteX _ => exact readInstr_endsListed (by decide) (by decide) loadA_writesListed _ s
  | ldxImmediate _ | ldxZeropage _ | ldxAbsolute _ | ldxZeropageY _ | ldxAbsoluteY _ =>
    exact readInstr_endsListed (by decide) (by decide) loadX_writesListed _ s
  | ldyImmediate _ | ldyZeropage _ | ldyAbsolute _ | ldyZeropageX _ | ldyAbsoluteX _ =>
    exact readInstr_endsListed (by decide) (by decide) loadY_writesListed _ s
  | andIndexedIndirectX _ | andZeropage _ | andImmediate _ | andAbsolute _ | andIndirectIndexedY _ | andZeropageX _
  | andAbsoluteY _ | andAbsoluteX _ => exact readInstr_endsListed (by decide) (by decide) andA_writesListed _ s
  | eorIndexedIndirectX _ | eorZeropage _ | eorImmediate _ | eorAbsolute _ | eorIndirectIndexedY _ | eorZeropageX _
  | eorAbsoluteY _ | eorAbsoluteX _ => exact readInstr_endsListed (by decide) (by decide) eorA_writesListed _ s
  | oraIndexedIndirectX _ | oraZeropage _ | oraImmediate _ | oraAbsolute _ | oraIndirectIndexedY _ | oraZeropageX _
  | oraAbsoluteY _ | oraAbsoluteX _ => exact readInstr_endsListed (by decide) (by decide) oraA_writesListed _ s
  | adcIndexedIndirectX _ | adcZeropage _ | adcImmediate _ | adcAbsolute _ | adcIndirectIndexedY _ | adcZeropageX _
  | adcAbsoluteY _ | adcAbsoluteX _ => exact readInstr_endsListed (by decide) (by decide) adcA_writesListed _ s
  | sbcIndexedIndirectX _ | sbcZeropage _ | sbcImmediate _ | sbcAbsolute _ | sbcIndirectIndexedY _ | sbcZeropageX _
  | sbcAbsoluteY _ | sbcAbsoluteX _ => exact readInstr_endsListed (by decide) (by decide) sbcA_writesListed _ s
  | cmpIndexedIndirectX _ | cmpZeropage _ | cmpImmediate _ | cmpAbsolute _ | cmpIndirectIndexedY _ | cmpZeropageX _
  | cmpAbsoluteY _ | cmpAbsoluteX _ => exact readInstr_endsListed (by decide) (by decide) cmpA_writesListed _ s
  | cpxImmediate _ | cpxZeropage _ | cpxAbsolute _ =>
    exact readInstr_endsListed (by decide) (by decide) cmpX_writesListed _ s
  | cpyImmediate _ | cpyZeropage _ | cpyAbsolute _ =>
    exact readInstr_endsListed (by decide) (by decide) cmpY_writesListed _ s
  | bitZeropage _ | bitAbsolute _ => exact readInstr_endsListed (by decide) (by decide) bitA_writesListed _ s
  | staIndexedIndirectX _ | styZeropage _ | staZeropage _ | stxZeropage _ | styAbsolute _ | staAbsolute _
  | stxAbsolute _ | staIndirectIndexedY _ | styZeropageX _ | staZeropageX _ | stxZeropageY _ | staAbsoluteY _
  | staAbsoluteX _ => exact writeInstr_endsListed (by decide) (by decide) _ _ s
  | aslZeropage _ | aslAbsolute _ | aslZeropageX _ | aslAbsoluteX _ =>
    exact modifyInstr_endsListed (by decide) (by decide) aslResult_writable _ s
  | lsrZeropage _ | lsrAbsolute _ | lsrZeropageX _ | lsrAbsoluteX _ =>
    exact modifyInstr_endsListed (by decide) (by decide) lsrResult_writable _ s
  | rolZeropage _ | rolAbsolute _ | rolZeropageX _ | rolAbsoluteX _ =>
    exact modifyInstr_endsListed (by decide) (by decide) rolResult_writable _ s
  | rorZeropage _ | rorAbsolute _ | rorZeropageX _ | rorAbsoluteX _ =>
    exact modifyInstr_endsListed (by decide) (by decide) rorResult_writable _ s
  | incZeropage _ | incAbsolute _ | incZeropageX _ | incAbsoluteX _ =>
    exact modifyInstr_endsListed (by decide) (by decide) incResult_writable _ s
  | decZeropage _ | decAbsolute _ | decZeropageX _ | decAbsoluteX _ =>
    exact modifyInstr_endsListed (by decide) (by decide) decResult_writable _ s
  | aslAccumulator => exact accumulatorInstr_endsListed (by decide) aslResult_writable s
  | lsrAccumulator => exact accumulatorInstr_endsListed (by decide) lsrResult_writable s
  | rolAccumulator => exact accumulatorInstr_endsListed (by decide) rolResult_writable s
  | rorAccumulator => exact accumulatorInstr_endsListed (by decide) rorResult_writable s
  | jmpAbsolute _ | jmpIndirect _ =>
    exact jumpInstr_endsListed (by decide) (by decide) (by simp [Instr.row, pcWriters]) _ s
  | bpl _ | bmi _ | bvc _ | bvs _ | bcc _ | bcs _ | bne _ | beq _ =>
    exact branchInstr_endsListed (by simp [Instr.row, pcWriters]) _ _ s
  | clc | cld | cli | clv | sec | sed | sei => exact done_setFlag_endsListed (by decide) _ s
  | txa | tya => exact done_setZN_endsListed (.setA (.refl _ s) (by decide) _) (by decide) (by decide) _
  | tax | tsx | inx | dex => exact done_setZN_endsListed (.setX (.refl _ s) (by decide) _) (by decide) (by decide) _
  | tay | iny | dey => exact done_setZN_endsListed (.setY (.refl _ s) (by decide) _) (by decide) (by decide) _
  | txs => exact done_endsListed (by decide) (by decide) (.setSP (.refl _ s) (by decide) _)
  | nop => exact done_endsListed (by decide) (by decide) (.refl _ s)
  | pha | php => exact done_endsListed (by decide) (by decide) (push_writesListed (by decide) _ s)
  | pla =>
    exact done_endsListed (by decide) (by decide)
      (((pull_writesListed (by decide) s).setA (by decide) _).setP (.setZN (.refl _ _) (by decide) (by decide) _))
  | plp => exact execPlp_endsListed s
  | jsr addr => exact execJsr_endsListed addr s
  | rts => exact execRts_endsListed s
  | brk => exact done_endsListed (by decide) (by decide) (takeException_writesListed _ s)
  | rti => exact done_endsListed (by decide) (by decide) (returnFromException_writesListed s)

/-- What an instruction writes, for any next state it answers. -/
theorem exec_writesListed {i : Instr} {s t : State} (h : exec i s = .next t) : WritesListed i.row.mnemonic s t := by
  obtain ⟨c, u, hdone, -, -, hu⟩ := exec_endsListed i s
  obtain rfl : u.finish c = t := Host.Outcome.next.inj (hdone.symm.trans h)
  exact hu.finish c

/-- Every instruction leaves the CPU in the barrier of its cost, on the count of the clock it began with (R75). -/
theorem exec_phase {i : Instr} {s t : State} (h : exec i s = .next t) :
    ∃ c, 2 ≤ c ∧ c ≤ 7 ∧ t.phase = .waiting s.cpuTicks c := by
  obtain ⟨c, u, hdone, hlow, hhigh, -⟩ := exec_endsListed i s
  obtain rfl : u.finish c = t := Host.Outcome.next.inj (hdone.symm.trans h)
  have hframe := exec_cpuFrame h
  have hticks : (u.finish c).cpuTicks = s.cpuTicks := by
    rw [State.cpuTicks, State.cpuTicks, hframe.clock, hframe.cpuClock]
  exact ⟨c, hlow, hhigh, by rw [← hticks]; rfl⟩

/-- Settles O16: a flag outside the list is not written. -/
theorem flagsWrittenOnlyByListedInstructions : Obligations.FlagsWrittenOnlyByListedInstructions :=
  fun _ _ _ f h hf => (exec_writesListed h).status f hf

/-- Settles O17: a register outside its list is not written. -/
theorem registersWrittenOnlyByListedInstructions : Obligations.RegistersWrittenOnlyByListedInstructions := by
  intro i s t h
  obtain ⟨ha, hx, hy, hsp, hpc, -⟩ := exec_writesListed h
  exact ⟨ha, hx, hy, hsp, hpc⟩

end Sys2Proof.Machine
end

section
/-! PROOFS. Fetching and decoding (`40_fetch_execute.md` R75, `30_encoding.md` R60): what the fetch of an instruction reads
and leaves, and what the fetched bytes decode to. -/

namespace Sys2Proof.Machine

/-! What the decoder answers, and that the encoder undoes it. -/

/-- The instructions of a form that an opcode byte selects are encoded by that byte and their operand bytes. -/
def EncodesFrom (op : Byte) : OpForm → Prop
  | .alone i => encode i = [op]
  | .byte f => ∀ b, encode (f b) = [op, b]
  | .word f => ∀ w, encode (f w) = [op, lo w, hi w]

/-- One case for each row of the opcode table (R64). -/
theorem decodeOpcode_encodesFrom {op : Byte} {form : OpForm} (h : decodeOpcode op = some form) :
    EncodesFrom op form := by
  have hop : op = BitVec.ofNat 8 op.toNat := by simp
  unfold decodeOpcode at h
  split at h <;> cases h
  all_goals
    rename_i hbyte
    rw [hbyte] at hop
    subst hop
    simp only [EncodesFrom]
    intros
    rfl

/-- What a string of bytes that decodes begins with: the bytes that one form asks for, and then the bytes left over. -/
theorem decode_ok_cases {bs rest : List Byte} {i : Instr} (h : decode bs = .ok (i, rest)) : ∃ op,
    (decodeOpcode op = some (.alone i) ∧ bs = op :: rest) ∨
    (∃ f b, decodeOpcode op = some (.byte f) ∧ i = f b ∧ bs = op :: b :: rest) ∨
    (∃ f l h, decodeOpcode op = some (.word f) ∧ i = f (w16 l h) ∧ bs = op :: l :: h :: rest) := by
  cases bs with
  | nil => cases h
  | cons op bs =>
    simp only [decode] at h
    split at h <;> cases h
    · exact ⟨op, .inl ⟨‹_›, rfl⟩⟩
    · exact ⟨op, .inr (.inl ⟨_, _, ‹_›, rfl, rfl⟩)⟩
    · exact ⟨op, .inr (.inr ⟨_, _, _, ‹_›, rfl, rfl⟩)⟩

/-- Bytes that decode to an instruction begin with its encoding, which decodes to it alone. -/
theorem eq_encode_append_of_decode {bs rest : List Byte} {i : Instr} (h : decode bs = .ok (i, rest)) :
    bs = encode i ++ rest ∧ decode (encode i) = .ok (i, []) := by
  obtain ⟨op, ⟨hop, rfl⟩ | ⟨f, b, hop, rfl, rfl⟩ | ⟨f, lb, hb, hop, rfl, rfl⟩⟩ := decode_ok_cases h
  · have hbytes : encode i = [op] := decodeOpcode_encodesFrom hop
    simp [hbytes, decode, hop]
  · have hbytes : encode (f b) = [op, b] := decodeOpcode_encodesFrom hop b
    simp [hbytes, decode, hop]
  · have hbytes : encode (f (w16 lb hb)) = [op, lb, hb] := by
      simpa using decodeOpcode_encodesFrom hop (w16 lb hb)
    simp [hbytes, decode, hop]

theorem length_encode (i : Instr) : (encode i).length = i.length := by cases i <;> rfl

/-! What `fetchPC` reads and leaves when it runs `n` times. -/

theorem length_fetchedBytes (n : Nat) (s : State) : (fetchedBytes n s).length = n := by
  induction n generalizing s with
  | zero => rfl
  | succ n ih => rw [fetchedBytes, List.length_cons, ih]

theorem afterFetch_accessed (n : Nat) (s : State) : s.bus.Accessed (afterFetch n s).bus := by
  induction n generalizing s with
  | zero => exact .refl
  | succ n ih => exact (Bus.Accessed.refl.read s.pc).trans (ih (fetchPC s).2)

/-- The address of the `k + 1`st byte, counted from PC and from PC past its first byte. -/
theorem pc_add_one_add (pc : Word) (k : Nat) : pc + 1#16 + BitVec.ofNat 16 k = pc + BitVec.ofNat 16 (k + 1) := by
  rw [BitVec.add_assoc, BitVec.ofNat_add, BitVec.add_comm 1#16]

/-- Fetching moves PC past the bytes and changes nothing else but the bus. -/
theorem afterFetch_eq (n : Nat) (s : State) :
    afterFetch n s = { s with pc := s.pc + BitVec.ofNat 16 n, bus := (afterFetch n s).bus } := by
  induction n generalizing s with
  | zero => simp [afterFetch]
  | succ n ih =>
    rw [afterFetch, ih, ← pc_add_one_add]
    rfl

theorem afterFetch_cpuFrame (n : Nat) (s : State) : CpuFrame s (afterFetch n s) := by
  rw [afterFetch_eq]
  exact ⟨rfl, rfl, rfl, rfl, afterFetch_accessed n s⟩

theorem afterFetch_phase (n : Nat) (s : State) : (afterFetch n s).phase = s.phase := by rw [afterFetch_eq]

theorem afterFetch_mem (n : Nat) (s : State) : (afterFetch n s).bus.mem = s.bus.mem := by
  induction n generalizing s with
  | zero => rfl
  | succ n ih => exact ih (fetchPC s).2

/-- The fetched bytes stand in the event history, one read each. -/
theorem afterFetch_history (n : Nat) (s : State) :
    (afterFetch n s).bus.history =
      (List.range n).reverse.map
        (fun k => BusEvent.read (s.pc + BitVec.ofNat 16 k) ((fetchedBytes n s).getD k 0x00#8)) ++ s.bus.history := by
  induction n generalizing s with
  | zero => rfl
  | succ n ih =>
    rw [afterFetch, ih, List.range_succ_eq_map]
    simp [fetchedBytes, pc_add_one_add, Function.comp_def]

/-- A byte fetched from an address bound to RAM is what RAM holds. -/
theorem getElem?_fetchedBytes {n k : Nat} {s : State} (hk : k < n)
    (hram : s.bus.isDevice (s.pc + BitVec.ofNat 16 k) = false) :
    (fetchedBytes n s)[k]? = some (s.bus.peek (s.pc + BitVec.ofNat 16 k)) := by
  induction n generalizing s k with
  | zero => exact absurd hk (Nat.not_lt_zero k)
  | succ n ih =>
    cases k with
    | zero =>
      rw [BitVec.add_zero] at hram ⊢
      simp [fetchedBytes, Bus.value_of_ram hram]
    | succ k =>
      rw [← pc_add_one_add] at hram ⊢
      rw [fetchedBytes, List.getElem?_cons_succ]
      exact ih (s := (fetchPC s).2) (Nat.lt_of_succ_lt_succ hk) hram

/-! What the fetch of an instruction answers. -/

section
variable {s : State}

theorem fetchInstruction_of_unmapped (h : decodeOpcode (fetchPC s).1 = none) :
    fetchInstruction s = .unmapped (fetchPC s).1 (afterFetch 1 s) := by
  simp only [fetchInstruction, h]
  rfl

theorem fetchInstruction_of_alone {i : Instr} (h : decodeOpcode (fetchPC s).1 = some (.alone i)) :
    fetchInstruction s = .instr i (afterFetch 1 s) := by
  simp only [fetchInstruction, h]
  rfl

theorem fetchInstruction_of_byte {f : Byte → Instr} (h : decodeOpcode (fetchPC s).1 = some (.byte f)) :
    fetchInstruction s = .instr (f (fetchPC (afterFetch 1 s)).1) (afterFetch 2 s) := by
  simp only [fetchInstruction, h]
  rfl

theorem fetchInstruction_of_word {f : Word → Instr} (h : decodeOpcode (fetchPC s).1 = some (.word f)) :
    fetchInstruction s =
      .instr (f (w16 (fetchPC (afterFetch 1 s)).1 (fetchPC (afterFetch 2 s)).1)) (afterFetch 3 s) := by
  simp only [fetchInstruction, h]
  rfl

end

/-- Whatever the fetch answers, it has run `fetchPC` some number of times, once for an unmapped opcode. -/
theorem fetchInstruction_cases (s : State) :
    (∃ i n, fetchInstruction s = .instr i (afterFetch n s)) ∨
    ∃ op, fetchInstruction s = .unmapped op (afterFetch 1 s) := by
  rcases hop : decodeOpcode (fetchPC s).1 with _ | i | f | f
  · exact .inr ⟨_, fetchInstruction_of_unmapped hop⟩
  · exact .inl ⟨_, _, fetchInstruction_of_alone hop⟩
  · exact .inl ⟨_, _, fetchInstruction_of_byte hop⟩
  · exact .inl ⟨_, _, fetchInstruction_of_word hop⟩

/-- If what `fetchPC` answers decodes to an instruction and nothing more, that is what the fetch answers. -/
theorem fetchInstruction_of_decode {n : Nat} {s : State} {i : Instr} (h : decode (fetchedBytes n s) = .ok (i, [])) :
    fetchInstruction s = .instr i (afterFetch n s) := by
  obtain ⟨op, ⟨hop, hbs⟩ | ⟨f, b, hop, rfl, hbs⟩ | ⟨f, lb, hb, hop, rfl, hbs⟩⟩ := decode_ok_cases h
  all_goals
    obtain rfl : n = _ := (length_fetchedBytes n s).symm.trans (congrArg List.length hbs)
    cases hbs
  · exact fetchInstruction_of_alone hop
  · exact fetchInstruction_of_byte hop
  · exact fetchInstruction_of_word hop

theorem step_of_decode {n : Nat} {s : State} {i : Instr} (hready : s.phase = .ready) (hturn : s.cpuTurn)
    (h : decode (fetchedBytes n (s.setAgenda s.agenda.tail)) = .ok (i, [])) :
    step s = exec i (afterFetch n (s.setAgenda s.agenda.tail)) := by
  rw [step_of_cpuTurn hready hturn, instructionStep, fetchInstruction_of_decode h]

/-- An instruction whose own bytes lie in RAM is fetched as its encoding. -/
theorem fetchedBytes_eq_encode {s : State} {i : Instr} {rest : List Byte}
    (hram : ∀ k < i.length, s.bus.isDevice (s.pc + BitVec.ofNat 16 k) = false)
    (h : [s.bus.peek s.pc, s.bus.peek (s.pc + 1#16), s.bus.peek (s.pc + 2#16)] = encode i ++ rest) :
    fetchedBytes i.length s = encode i := by
  apply List.ext_getElem?
  intro k
  by_cases hk : k < i.length
  · have hpeek : [s.bus.peek s.pc, s.bus.peek (s.pc + 1#16), s.bus.peek (s.pc + 2#16)][k]? =
        some (s.bus.peek (s.pc + BitVec.ofNat 16 k)) := by
      have hlength := congrArg List.length h
      simp only [List.length_cons, List.length_nil, List.length_append, length_encode] at hlength
      obtain rfl | rfl | rfl : k = 0 ∨ k = 1 ∨ k = 2 := by omega
      · simp
      · rfl
      · rfl
    rw [getElem?_fetchedBytes hk (hram k hk), ← hpeek, h, List.getElem?_append_left (by rwa [length_encode])]
  · rw [List.getElem?_eq_none (by rw [length_fetchedBytes]; omega),
      List.getElem?_eq_none (by rw [length_encode]; omega)]

/-- Settles O12: what the fetch reads and leaves, and the meaning that the step runs on it. -/
theorem stepRunsDecodedInstruction : Obligations.StepRunsDecodedInstruction := by
  constructor
  · intro s i n hready hturn s0 hdecode
    have hbytes := congrArg List.length (eq_encode_append_of_decode hdecode).1
    rw [length_fetchedBytes, List.append_nil, length_encode] at hbytes
    have hbus := afterFetch_accessed n s0
    exact ⟨rfl, hbytes, step_of_decode hready hturn hdecode, afterFetch_eq n s0, afterFetch_history n s0,
      hbus.devices_eq, hbus.onReset_eq, fun k hk hram => getElem?_fetchedBytes (s := s0) hk hram,
      fun addr _ => congrArg (Memory.read · addr.toNat) (afterFetch_mem n s0)⟩
  · intro s i rest hready hturn hram hdecode s0
    obtain ⟨hbytes, hself⟩ := eq_encode_append_of_decode hdecode
    have hfetched : fetchedBytes i.length s0 = encode i := fetchedBytes_eq_encode (s := s0) hram hbytes
    exact ⟨hfetched, step_of_decode hready hturn (hfetched ▸ hself)⟩

end Sys2Proof.Machine
end

section
/-! PROOFS. What one step can do, whoever moves (`00_scope.md` R17, `40_fetch_execute.md` R75, R76), and the count of the
clock along it (`10_state.md` R32). -/

namespace Sys2Proof.Machine

/-- What a move of the producer, the host or another consumer makes of the clock (R176 to R179). -/
inductive Clock.MovesTo (c : Clock) : Clock → Prop
  | tick : MovesTo c c.tick
  | start : MovesTo c c.start
  | stop : MovesTo c c.stop
  | await (id : Nat) (r : ClockRef) (target : Nat) : MovesTo c (c.consumerAwait id r target)
  | resume (id : Nat) : MovesTo c (c.consumerResume id)

/-- What a step answers when the move `next`, or the default schedule if there is none, has been taken off the list and
leaves `s` to start from. -/
inductive StepsTo (next : Option Move) (s : State) : State → Prop
  | instruction {i : Instr} {n : Nat} {t : State} (hready : s.phase = .ready) (h : exec i (afterFetch n s) = .next t) :
      StepsTo next s t
  | unmapped (hready : s.phase = .ready) (op : Byte) : StepsTo next s ((afterFetch 1 s).badOpcode op)
  | barrierStep {start cycles : Nat} (hwaiting : s.phase = .waiting start cycles) :
      StepsTo next s (barrierStep start cycles s)
  | barrier {start cycles : Nat} (hwaiting : s.phase = .waiting start cycles) : StepsTo next s (barrier start cycles s)
  | clock {c : Clock} (h : s.clock.MovesTo c) : StepsTo next s (s.setClock c)
  | otherRead (addr : Word) : StepsTo next s (s.setBus (s.bus.afterOtherRead addr))
  | otherWrite (addr : Word) (v : Byte) : StepsTo next s (s.setBus (s.bus.afterOtherWrite addr v))
  | reset (houtside : s.phase.inBarrier = false) : StepsTo next s s.afterReset
  | construct {b : GivenBus} {c : GivenClock} {r : ClockRef} (hnext : next = some (.construct b c r))
      (houtside : s.phase.inBarrier = false) (hvalid : r.valid = true) :
      StepsTo next s (State.construct (b.pick s.bus) (c.pick s.clock) r s.agenda)

section
variable {next : Option Move} {s t : State}

theorem instructionStep_stepsTo (hready : s.phase = .ready) (h : instructionStep s = .next t) : StepsTo next s t := by
  unfold instructionStep at h
  rcases fetchInstruction_cases s with ⟨i, n, hfetch⟩ | ⟨op, hfetch⟩ <;> rw [hfetch] at h
  · exact .instruction hready h
  · cases h
    exact .unmapped hready op

theorem hostReset_stepsTo (h : hostReset s = .next t) : StepsTo next s t := by
  unfold hostReset at h
  split at h
  · cases h
  · split at h <;> cases h
    exact .reset (Bool.eq_false_iff.mpr ‹_›)

theorem hostConstruct_stepsTo {b : GivenBus} {c : GivenClock} {r : ClockRef} (h : hostConstruct b c r s = .next t) :
    StepsTo (some (.construct b c r)) s t := by
  unfold hostConstruct at h
  split at h
  · cases h
  · split at h <;> cases h
    exact .construct rfl (Bool.eq_false_iff.mpr ‹_›) ‹_›

theorem cpuStep_stepsTo (h : cpuStep s = .next t) : StepsTo next s t := by
  unfold cpuStep at h
  split at h
  · exact instructionStep_stepsTo ‹_› h
  · cases h
    exact .barrierStep ‹_›
  · cases h

theorem defaultStep_stepsTo (h : defaultStep s = .next t) : StepsTo next s t := by
  unfold defaultStep at h
  split at h
  · exact instructionStep_stepsTo ‹_› h
  · cases h
    exact .barrier ‹_›
  · cases h

theorem perform_stepsTo {m : Move} (h : perform m s = .next t) : StepsTo (some m) s t := by
  cases m with
  | cpu => exact cpuStep_stepsTo h
  | tick => cases h; exact .clock .tick
  | start => cases h; exact .clock .start
  | stop => cases h; exact .clock .stop
  | await id r target =>
    simp only [perform] at h
    split at h <;> cases h
    exact .clock (.await id r target)
  | resume id => cases h; exact .clock (.resume id)
  | otherRead addr => cases h; exact .otherRead addr
  | otherWrite addr v => cases h; exact .otherWrite addr v
  | reset => exact hostReset_stepsTo h
  | construct b c r => exact hostConstruct_stepsTo h

/-- Everything a step can do. -/
theorem step_stepsTo (h : step s = .next t) : StepsTo s.agenda.head? (s.setAgenda s.agenda.tail) t := by
  unfold step machineStep at h
  split at h
  next hagenda =>
    have hself : s.setAgenda [] = s := by rw [← hagenda]; rfl
    rw [hagenda, List.tail_nil, hself]
    exact defaultStep_stepsTo h
  next m rest hagenda =>
    rw [hagenda]
    exact perform_stepsTo h

end

/-! The CPU's barrier. -/

/-- The CPU's own step in its barrier: it resumes, stays blocked, goes on at once, or registers. -/
theorem barrierStep_cases (start cycles : Nat) (s : State) :
    (s.clock.hasReleased .cpu = true ∧
      barrierStep start cycles s = (s.setClock (s.clock.dropReleased .cpu)).executeReturns cycles) ∨
    barrierStep start cycles s = s ∨
    (s.clock.hasReleased .cpu = false ∧ s.clock.hasWaiting .cpu = false ∧
      barrierStep start cycles s = s.executeReturns cycles) ∨
    (s.clock.hasReleased .cpu = false ∧ s.clock.hasWaiting .cpu = false ∧
      s.clock.ticks < s.cpuClock.toMaster (start + cycles) ∧
      barrierStep start cycles s = s.setClock (s.clock.register .cpu s.cpuClock (start + cycles))) := by
  by_cases hreleased : s.clock.hasReleased .cpu = true
  · exact .inl ⟨hreleased, if_pos hreleased⟩
  rw [barrierStep, if_neg hreleased]
  by_cases hblocked : s.clock.hasWaiting .cpu = true
  · exact .inr (.inl (if_pos hblocked))
  rw [if_neg hblocked]
  rw [Bool.not_eq_true] at hreleased hblocked
  by_cases hpassed : s.cpuClock.toMaster (start + cycles) ≤ s.clock.ticks
  · exact .inr (.inr (.inl ⟨hreleased, hblocked, if_pos hpassed⟩))
  · exact .inr (.inr (.inr ⟨hreleased, hblocked, Nat.lt_of_not_le hpassed, if_neg hpassed⟩))

/-- The CPU's own step in its barrier leaves the barrier or the phase as it is; the count and whether the clock runs are
left alone. -/
theorem barrierStep_clock_phase (start cycles : Nat) (s : State) :
    (barrierStep start cycles s).clock.ticks = s.clock.ticks ∧
    (barrierStep start cycles s).clock.running = s.clock.running ∧
    ((barrierStep start cycles s).phase = .ready ∨ (barrierStep start cycles s).phase = s.phase) := by
  rcases barrierStep_cases start cycles s with ⟨-, h⟩ | h | ⟨-, -, h⟩ | ⟨-, -, -, h⟩ <;> rw [h] <;> simp

/-- The barrier of the default schedule is the CPU's step alone or, if that leaves the CPU in it, the producer's steps and
the CPU's step again. -/
theorem barrier_cases (start cycles : Nat) (s : State) :
    barrier start cycles s = barrierStep start cycles s ∨
    ∃ target, (barrierStep start cycles s).phase = s.phase ∧
      barrier start cycles s = barrierStep start cycles (advanceClock target (barrierStep start cycles s)) := by
  by_cases hready : (barrierStep start cycles s).phase = .ready
  · exact .inl (if_pos hready)
  · have hsame := (barrierStep_clock_phase start cycles s).2.2.resolve_left hready
    exact .inr ⟨_, hsame, if_neg hready⟩

/-! The count. -/

/-- The count does not go back, and on a stopped clock it stays (R32). -/
def Clock.TicksAdvance (c c' : Clock) : Prop := c.ticks ≤ c'.ticks ∧ (c.running = false → c'.ticks = c.ticks)

theorem Clock.TicksAdvance.of_eq {c c' : Clock} (h : c'.ticks = c.ticks) : c.TicksAdvance c' := ⟨h.ge, fun _ => h⟩

theorem Clock.ticksAdvance_tickTimes (n : Nat) (c : Clock) : c.TicksAdvance (c.tickTimes n) := by
  cases hr : c.running with
  | false => exact .of_eq (by rw [Clock.tickTimes_of_stopped n hr])
  | true => exact ⟨by rw [Clock.tickTimes_ticks n hr]; omega, by simp [hr]⟩

theorem advanceClock_ticksAdvance (target : Nat) (s : State) :
    s.clock.TicksAdvance (advanceClock target s).clock :=
  Clock.ticksAdvance_tickTimes _ s.clock

@[simp] theorem Clock.consumerAwait_ticks (c : Clock) (id : Nat) (r : ClockRef) (target : Nat) :
    (c.consumerAwait id r target).ticks = c.ticks := by
  unfold Clock.consumerAwait
  split <;> rfl

@[simp] theorem Clock.consumerResume_ticks (c : Clock) (id : Nat) : (c.consumerResume id).ticks = c.ticks := by
  unfold Clock.consumerResume
  split <;> rfl

theorem Clock.MovesTo.ticksAdvance {c c' : Clock} (h : c.MovesTo c') : c.TicksAdvance c' := by
  cases h with
  | tick => exact Clock.ticksAdvance_tickTimes 1 c
  | start => exact .of_eq (Clock.start_ticks c)
  | stop => exact .of_eq (Clock.stop_ticks c)
  | await id r target => exact .of_eq (Clock.consumerAwait_ticks c id r target)
  | resume id => exact .of_eq (Clock.consumerResume_ticks c id)

theorem barrier_ticksAdvance (start cycles : Nat) (s : State) :
    s.clock.TicksAdvance (barrier start cycles s).clock := by
  obtain ⟨hentered, hrunning, -⟩ := barrierStep_clock_phase start cycles s
  rcases barrier_cases start cycles s with h | ⟨target, -, h⟩ <;> rw [h]
  · exact .of_eq hentered
  · have hleft := (barrierStep_clock_phase start cycles (advanceClock target (barrierStep start cycles s))).1
    obtain ⟨hle, hstopped⟩ := advanceClock_ticksAdvance target (barrierStep start cycles s)
    rw [hentered] at hle hstopped
    rw [hrunning] at hstopped
    exact ⟨hleft ▸ hle, fun hr => hleft.trans (hstopped hr)⟩

/-- Every step but a `new` on another clock lets the count advance only as the clock does. -/
theorem StepsTo.ticksAdvance {next : Option Move} {s t : State} (h : StepsTo next s t)
    (hnext : ∀ b n r, next ≠ some (.construct b (.other n) r)) : s.clock.TicksAdvance t.clock := by
  cases h with
  | @instruction i n t _ hexec =>
    exact .of_eq (congrArg Clock.ticks ((afterFetch_cpuFrame n s).trans (exec_cpuFrame hexec)).clock)
  | unmapped _ op => exact .of_eq (congrArg Clock.ticks (afterFetch_cpuFrame 1 s).clock)
  | barrierStep _ => exact .of_eq (barrierStep_clock_phase _ _ s).1
  | barrier _ => exact barrier_ticksAdvance _ _ s
  | clock hmove => exact hmove.ticksAdvance
  | otherRead addr => exact .of_eq rfl
  | otherWrite addr v => exact .of_eq rfl
  | reset _ => exact .of_eq rfl
  | @construct b c r hconstruct _ _ =>
    cases c with
    | same => exact .of_eq rfl
    | other n => exact absurd hconstruct (hnext b n r)

/-- Settles O23: the count along every step but a `new` on another clock. -/
theorem ticksNeverDecreaseAndAdvanceOnlyWhileRunning :
    Obligations.TicksNeverDecreaseAndAdvanceOnlyWhileRunning := by
  intro s t hnew h
  refine (step_stepsTo h).ticksAdvance fun b n r hhead => ?_
  obtain ⟨rest, hagenda⟩ := List.head?_eq_some_iff.mp hhead
  exact hnew b n r rest hagenda

end Sys2Proof.Machine
end

section
/-! PROOFS. The invariant of the machine (`10_state.md` R31, R32, `20_memory.md` R41, `60_exceptions.md` R179, R180): it holds
after reset and every step keeps it. -/

namespace Sys2Proof.Machine

/-! The bus: memory and the image of the bus's own reset stay in canonical form. -/

theorem Bus.Accessed.sound {b c : Bus} (h : b.Accessed c) (hb : b.Sound) : c.Sound := by
  induction h with
  | refl => exact hb
  | read _ _ ih => exact ih
  | write _ a v ih => exact ⟨Bus.stored_wf a v ih.1, ih.2⟩

theorem Bus.Sound.afterBusReset {b : Bus} (h : b.Sound) : b.afterBusReset.Sound := ⟨Bus.afterBusReset_wf h.1 h.2, h.2⟩

/-- The host's `reset()` reads its vector from the bus after the bus's own reset. -/
theorem afterReset_accessed (s : State) : s.bus.afterBusReset.Accessed s.afterReset.bus :=
  (Bus.Accessed.refl.read _).read _

/-! The clock: who waits, who is released, and the CPU's entries among them. -/

/-- Every registered target is ahead of the count and every released one reached, unless a stop drained it (R179). -/
def Clock.Timely (c : Clock) : Prop :=
  (∀ w ∈ c.waiters, c.ticks < w.target) ∧ ∀ r ∈ c.released, r.drainedAt = none → r.waiter.target ≤ c.ticks

/-- A clock has no entry of the CPU's exactly if no waiter and no release is the CPU's. -/
theorem Clock.cpuEntries_eq_zero {c : Clock} : c.cpuEntries = 0 ↔
    (∀ w ∈ c.waiters, w.caller ≠ .cpu) ∧ ∀ r ∈ c.released, r.waiter.caller ≠ .cpu := by
  simp [Clock.cpuEntries, List.countP_eq_zero]

theorem Clock.cpuEntries_eq_zero_of_absent {c : Clock} (hreleased : c.hasReleased .cpu = false)
    (hblocked : c.hasWaiting .cpu = false) : c.cpuEntries = 0 := by
  rw [Clock.cpuEntries_eq_zero]
  exact ⟨by simpa [Clock.hasWaiting] using hblocked, by simpa [Clock.hasReleased] using hreleased⟩

/-- A clock that is timely and has no entry of the CPU's is one that `new` may be given, and the other way round. -/
theorem Clock.sound_iff {c : Clock} : c.Sound ↔ c.Timely ∧ c.cpuEntries = 0 := by
  rw [Clock.cpuEntries_eq_zero]
  constructor
  · rintro ⟨hw, hr⟩
    exact ⟨⟨fun w h => (hw w h).2, fun r h => (hr r h).2⟩, fun w h => (hw w h).1, fun r h => (hr r h).1⟩
  · rintro ⟨⟨hw, hr⟩, hw', hr'⟩
    exact ⟨fun w h => ⟨hw' w h, hw w h⟩, fun r h => ⟨hr' r h, hr r h⟩⟩

/-- What every agent but the CPU leaves of a clock: it stays timely, and the CPU keeps its entries, waiting ones perhaps
released. -/
structure Clock.Evolves (c c' : Clock) : Prop where
  timely : c.Timely → c'.Timely
  ticks_le : c.ticks ≤ c'.ticks
  cpuEntries : c'.cpuEntries = c.cpuEntries
  waiters : ∀ w ∈ c'.waiters, w.caller = .cpu → w ∈ c.waiters
  released : ∀ r ∈ c'.released, r.waiter.caller = .cpu → r ∈ c.released ∨ r.waiter ∈ c.waiters

section
variable {c c' c'' : Clock}

theorem Clock.Evolves.of_entries_eq (hticks : c'.ticks = c.ticks) (hwaiters : c'.waiters = c.waiters)
    (hreleased : c'.released = c.released) : c.Evolves c' where
  timely h := by
    rw [Clock.Timely, hticks, hwaiters, hreleased]
    exact h
  ticks_le := hticks.ge
  cpuEntries := by rw [Clock.cpuEntries, Clock.cpuEntries, hwaiters, hreleased]
  waiters _ hw _ := hwaiters ▸ hw
  released _ hr _ := .inl (hreleased ▸ hr)

theorem Clock.Evolves.refl (c : Clock) : c.Evolves c := .of_entries_eq rfl rfl rfl

theorem Clock.Evolves.trans (h : c.Evolves c') (h' : c'.Evolves c'') : c.Evolves c'' where
  timely := h'.timely ∘ h.timely
  ticks_le := h.ticks_le.trans h'.ticks_le
  cpuEntries := h'.cpuEntries.trans h.cpuEntries
  waiters w hw hcpu := h.waiters w (h'.waiters w hw hcpu) hcpu
  released r hr hcpu := (h'.released r hr hcpu).elim (h.released r · hcpu) fun hw => .inr (h.waiters _ hw hcpu)

/-- The entries of the CPU's are counted among those that are not another caller's. -/
theorem countP_filter_ne {α : Type} (caller : α → Caller) {who : Caller} (hwho : who ≠ .cpu) (l : List α) :
    (l.filter fun a => caller a != who).countP (fun a => caller a == .cpu) = l.countP fun a => caller a == .cpu := by
  rw [List.countP_filter]
  refine List.countP_congr fun a _ => ?_
  simp only [Bool.and_eq_true, beq_iff_eq, bne_iff_ne, ne_eq, and_iff_left_iff_imp]
  rintro h rfl
  exact hwho h

theorem Clock.cpuEntries_eq_of_othersKept {who : Caller} (hwho : who ≠ .cpu) (h : c.OthersKept who c') :
    c'.cpuEntries = c.cpuEntries := by
  unfold Clock.cpuEntries
  rw [← countP_filter_ne Waiter.caller hwho c'.waiters, ← countP_filter_ne Waiter.caller hwho c.waiters,
    ← countP_filter_ne (fun r : Release => r.waiter.caller) hwho c'.released,
    ← countP_filter_ne (fun r : Release => r.waiter.caller) hwho c.released, h.1, h.2]

/-- A consumer's call keeps the count and every other caller's entries, the CPU's among them. -/
theorem Clock.Evolves.of_othersKept {who : Caller} (hwho : who ≠ .cpu) (hkept : c.OthersKept who c')
    (hticks : c.ticks ≤ c'.ticks) (htimely : c.Timely → c'.Timely) : c.Evolves c' where
  timely := htimely
  ticks_le := hticks
  cpuEntries := Clock.cpuEntries_eq_of_othersKept hwho hkept
  waiters w hw hcpu := by
    have hmem : w ∈ c'.waiters.filter fun v => v.caller != who := by simp [hw, hcpu, hwho.symm]
    rw [hkept.1] at hmem
    exact List.mem_of_mem_filter hmem
  released r hr hcpu := by
    have hmem : r ∈ c'.released.filter fun q => q.waiter.caller != who := by simp [hr, hcpu, hwho.symm]
    rw [hkept.2] at hmem
    exact .inl (List.mem_of_mem_filter hmem)

/-- Waiters that are taken out and stand among the released afterwards are entries as before. -/
theorem Clock.Evolves.of_release {q : Waiter → Bool} {g : Waiter → Release} (hg : ∀ w, (g w).waiter = w)
    (hwaiters : c'.waiters = c.waiters.filter fun w => !q w)
    (hreleased : c'.released = c.released ++ (c.waiters.filter q).map g)
    (hticks : c.ticks ≤ c'.ticks) (htimely : c.Timely → c'.Timely) : c.Evolves c' where
  timely := htimely
  ticks_le := hticks
  cpuEntries := by
    have hsplit := List.countP_eq_countP_filter_add c.waiters (fun w => w.caller == .cpu) q
    simp only [Clock.cpuEntries, hwaiters, hreleased, List.countP_append, List.countP_map, Function.comp_def, hg]
    omega
  waiters w hw _ := by
    rw [hwaiters] at hw
    exact List.mem_of_mem_filter hw
  released r hr _ := by
    rw [hreleased, List.mem_append, List.mem_map] at hr
    rcases hr with hr | ⟨w, hw, rfl⟩
    · exact .inl hr
    · rw [hg]
      exact .inr (List.mem_of_mem_filter hw)

end

theorem Clock.Timely.tickTimes {c : Clock} (h : c.Timely) (n : Nat) : (c.tickTimes n).Timely := by
  cases hrunning : c.running with
  | false => rwa [Clock.tickTimes_of_stopped n hrunning]
  | true =>
    have hticks := Clock.tickTimes_ticks n hrunning
    constructor
    · intro w hw
      rw [hticks]
      exact ((Clock.mem_tickTimes_waiters n hrunning h.1 w).mp hw).2
    · intro r hr hundrained
      rw [hticks]
      rcases (Clock.mem_tickTimes_released n hrunning h.1 r).mp hr with hold | ⟨-, -, hle⟩
      · exact (h.2 r hold hundrained).trans (Nat.le_add_right _ n)
      · exact hle

theorem Clock.evolves_tick (c : Clock) : c.Evolves c.tick := by
  cases hrunning : c.running with
  | false =>
    rw [Clock.tick_of_stopped hrunning]
    exact .refl c
  | true =>
    refine .of_release (q := fun w => w.target == c.ticks + 1) (g := Waiter.reached) (fun _ => rfl) ?_ ?_
      (Clock.ticksAdvance_tickTimes 1 c).1 fun h => h.tickTimes 1
    · rw [Clock.tick, if_pos hrunning]
      rfl
    · rw [Clock.tick, if_pos hrunning]

theorem Clock.evolves_tickTimes (n : Nat) (c : Clock) : c.Evolves (c.tickTimes n) := by
  induction n generalizing c with
  | zero => exact .refl c
  | succ n ih => exact c.evolves_tick.trans (ih c.tick)

/-- A draining stop releases every waiter, the others none (R183). -/
theorem Clock.evolves_stop (c : Clock) : c.Evolves c.stop := by
  unfold Clock.stop
  split
  · split
    · exact .of_entries_eq rfl rfl rfl
    · refine .of_release (q := fun _ => true) (g := Waiter.drained c.ticks) (fun _ => rfl) (by simp) (by simp) le_rfl ?_
      rintro ⟨-, hreached⟩
      refine ⟨nofun, fun r hr hundrained => ?_⟩
      rcases List.mem_append.mp hr with hold | hnew
      · exact hreached r hold hundrained
      · obtain ⟨w, -, rfl⟩ := List.mem_map.mp hnew
        cases hundrained
  · exact .refl c

theorem Clock.Timely.register {c : Clock} (h : c.Timely) {who : Caller} {r : ClockRef} {target : Nat}
    (hahead : c.ticks < r.toMaster target) : (c.register who r target).Timely := by
  refine ⟨fun w hw => ?_, h.2⟩
  rcases List.mem_append.mp hw with hold | hnew
  · exact h.1 w hold
  · obtain rfl := List.mem_singleton.mp hnew
    exact hahead

theorem Clock.Timely.dropReleased {c : Clock} (h : c.Timely) (who : Caller) : (c.dropReleased who).Timely :=
  ⟨h.1, fun r hr => h.2 r (List.mem_of_mem_eraseP hr)⟩

theorem Clock.evolves_consumerAwait (c : Clock) (id : Nat) (r : ClockRef) (target : Nat) :
    c.Evolves (c.consumerAwait id r target) := by
  unfold Clock.consumerAwait
  split
  · exact .of_entries_eq rfl rfl rfl
  · exact .of_othersKept (who := .consumer id) nofun (c.othersKept_register _ r target) le_rfl
      fun h => h.register (by omega)

theorem Clock.evolves_consumerResume (c : Clock) (id : Nat) : c.Evolves (c.consumerResume id) := by
  unfold Clock.consumerResume
  split
  · exact .of_othersKept (who := .consumer id) nofun (c.othersKept_dropReleased _) le_rfl fun h => h.dropReleased _
  · exact .refl c

theorem Clock.MovesTo.evolves {c c' : Clock} (h : c.MovesTo c') : c.Evolves c' := by
  cases h with
  | tick => exact c.evolves_tick
  | start => exact .of_entries_eq rfl rfl rfl
  | stop => exact c.evolves_stop
  | await id r target => exact c.evolves_consumerAwait id r target
  | resume id => exact c.evolves_consumerResume id

/-! The CPU's place on the clock. -/

theorem ClockRef.scale_mono (r : ClockRef) {m n : Nat} (h : m ≤ n) : r.scale m ≤ r.scale n := by
  cases r with
  | master => exact h
  | divider d => exact Nat.div_le_div_right h

/-- Outside the barrier the CPU's place fits if it has no entry. -/
theorem State.cpuFits_iff_of_outside {s : State} (h : s.phase.inBarrier = false) :
    s.cpuFits ↔ s.clock.cpuEntries = 0 := by
  unfold State.cpuFits
  cases hphase : s.phase with
  | ready => rfl
  | waiting start cycles => simp [hphase, Phase.inBarrier] at h
  | halted op => rfl

/-- A CPU that enters its barrier now and has no entry yet fits. -/
theorem State.cpuFits_of_entering {s : State} {cycles : Nat} (hphase : s.phase = .waiting s.cpuTicks cycles)
    (hnone : s.clock.cpuEntries = 0) (hlow : 2 ≤ cycles) (hhigh : cycles ≤ 7) : s.cpuFits := by
  obtain ⟨hw, hr⟩ := Clock.cpuEntries_eq_zero.mp hnone
  unfold State.cpuFits
  rw [hphase]
  exact ⟨by omega, fun w h hcpu => absurd hcpu (hw w h), fun r h hcpu => absurd hcpu (hr r h), hlow, hhigh, le_rfl⟩

/-- A CPU that registers in its barrier fits. -/
theorem State.cpuFits_register {s : State} {start cycles : Nat} (hphase : s.phase = .waiting start cycles)
    (h : s.cpuFits) (hnone : s.clock.cpuEntries = 0) :
    (s.setClock (s.clock.register .cpu s.cpuClock (start + cycles))).cpuFits := by
  obtain ⟨hw, hr⟩ := Clock.cpuEntries_eq_zero.mp hnone
  unfold State.cpuFits at h ⊢
  rw [hphase] at h
  rw [State.setClock_phase, hphase]
  obtain ⟨-, -, -, hlow, hhigh, hstart⟩ := h
  refine ⟨?_, fun w hmem hcpu => ?_, fun r hmem hcpu => absurd hcpu (hr r hmem), hlow, hhigh, hstart⟩
  · unfold Clock.cpuEntries at hnone ⊢
    simp only [State.setClock_clock, Clock.register, List.countP_append, List.countP_singleton, beq_self_eq_true,
      if_true]
    omega
  · rcases List.mem_append.mp hmem with hold | hnew
    · exact absurd hcpu (hw w hold)
    · exact List.mem_singleton.mp hnew

/-- What the other agents do to the clock leaves the CPU's place fitting. -/
theorem State.cpuFits_of_evolves {s : State} {c : Clock} (h : s.cpuFits) (hc : s.clock.Evolves c) :
    (s.setClock c).cpuFits := by
  cases hphase : s.phase with
  | ready | halted _ =>
    rw [State.cpuFits_iff_of_outside (by simp [hphase, Phase.inBarrier])] at h ⊢
    exact hc.cpuEntries.trans h
  | waiting start cycles =>
    unfold State.cpuFits at h ⊢
    rw [State.setClock_phase, hphase]
    rw [hphase] at h
    obtain ⟨hone, hw, hr, hlow, hhigh, hstart⟩ := h
    refine ⟨hc.cpuEntries.trans_le hone, fun w hmem hcpu => hw w (hc.waiters w hmem hcpu) hcpu, fun r hmem hcpu => ?_,
      hlow, hhigh, hstart.trans (s.cpuClock.scale_mono hc.ticks_le)⟩
    rcases hc.released r hmem hcpu with hold | hreleased
    · exact hr r hold hcpu
    · exact hw r.waiter hreleased hcpu

/-! The invariant, step by step. -/

section
variable {s t : State}

theorem State.Inv.busSound (h : s.Inv) : s.bus.Sound := ⟨h.memory, h.image⟩

theorem State.Inv.clockTimely (h : s.Inv) : s.clock.Timely := ⟨h.pending, h.reached⟩

theorem State.Inv.cpuEntries (h : s.Inv) (houtside : s.phase.inBarrier = false) : s.clock.cpuEntries = 0 :=
  (State.cpuFits_iff_of_outside houtside).mp h.cpu

/-- A step that leaves the CPU's clock reference keeps the invariant if each part of the state does. -/
theorem State.Inv.of_parts (h : s.Inv) (hbus : t.bus.Sound) (hclock : t.clock.Timely) (hfits : t.cpuFits)
    (hcpuClock : t.cpuClock = s.cpuClock) (hagenda : t.agenda ⊆ s.agenda) : t.Inv where
  memory := hbus.1
  image := hbus.2
  divisor := hcpuClock ▸ h.divisor
  pending := hclock.1
  reached := hclock.2
  cpu := hfits
  givenBus n c r hmem := h.givenBus n c r (hagenda hmem)
  givenClock b n r hmem := h.givenClock b n r (hagenda hmem)

theorem State.Inv.setAgenda (h : s.Inv) {l : List Move} (hl : l ⊆ s.agenda) : (s.setAgenda l).Inv :=
  h.of_parts h.busSound h.clockTimely h.cpu rfl hl

theorem State.Inv.setBus (h : s.Inv) {b : Bus} (hb : b.Sound) : (s.setBus b).Inv :=
  h.of_parts hb h.clockTimely h.cpu rfl (List.Subset.refl _)

theorem State.Inv.setClock (h : s.Inv) {c : Clock} (hc : s.clock.Evolves c) : (s.setClock c).Inv :=
  h.of_parts h.busSound (hc.timely h.clockTimely) (State.cpuFits_of_evolves h.cpu hc) rfl (List.Subset.refl _)

/-- An instruction takes a Ready CPU into its barrier. -/
theorem State.Inv.instruction (h : s.Inv) (hready : s.phase = .ready) {i : Instr} {n : Nat}
    (hexec : exec i (afterFetch n s) = .next t) : t.Inv := by
  obtain ⟨hclock, hcpuClock, hagenda, -, hbus⟩ := (afterFetch_cpuFrame n s).trans (exec_cpuFrame hexec)
  obtain ⟨cycles, hlow, hhigh, hphase⟩ := exec_phase hexec
  have hticks : (afterFetch n s).cpuTicks = t.cpuTicks := by
    rw [afterFetch_eq, State.cpuTicks, State.cpuTicks, hclock, hcpuClock]
  rw [hticks] at hphase
  have hnone := h.cpuEntries (by rw [hready]; rfl)
  rw [← hclock] at hnone
  exact h.of_parts (hbus.sound h.busSound) (hclock ▸ h.clockTimely)
    (State.cpuFits_of_entering hphase hnone hlow hhigh) hcpuClock (hagenda ▸ List.Subset.refl _)

/-- An unmapped opcode halts a Ready CPU. -/
theorem State.Inv.badOpcode (h : s.Inv) (hready : s.phase = .ready) (op : Byte) :
    ((afterFetch 1 s).badOpcode op).Inv := by
  obtain ⟨hclock, hcpuClock, hagenda, -, hbus⟩ := afterFetch_cpuFrame 1 s
  have hnone := h.cpuEntries (by rw [hready]; rfl)
  rw [← hclock] at hnone
  exact h.of_parts (hbus.sound h.busSound) (hclock ▸ h.clockTimely)
    ((State.cpuFits_iff_of_outside rfl).mpr hnone) hcpuClock (hagenda ▸ List.Subset.refl _)

/-- `execute` returns once the CPU has no entry on the clock. -/
theorem State.Inv.executeReturns (h : s.Inv) {c : Clock} (hc : c.Timely) (hnone : c.cpuEntries = 0) (cycles : Nat) :
    ((s.setClock c).executeReturns cycles).Inv :=
  h.of_parts h.busSound hc ((State.cpuFits_iff_of_outside rfl).mpr hnone) rfl (List.Subset.refl _)

theorem State.Inv.barrierStep (h : s.Inv) {start cycles : Nat} (hwaiting : s.phase = .waiting start cycles) :
    (barrierStep start cycles s).Inv := by
  rcases barrierStep_cases start cycles s with
    ⟨hreleased, heq⟩ | heq | ⟨hreleased, hblocked, heq⟩ | ⟨hreleased, hblocked, hahead, heq⟩ <;> rw [heq]
  · have hfits := h.cpu
    unfold State.cpuFits at hfits
    rw [hwaiting] at hfits
    exact h.executeReturns (h.clockTimely.dropReleased _) (Clock.cpuEntries_dropReleased hfits.1 hreleased) cycles
  · exact h
  · exact h.executeReturns h.clockTimely (Clock.cpuEntries_eq_zero_of_absent hreleased hblocked) cycles
  · have hnone := Clock.cpuEntries_eq_zero_of_absent hreleased hblocked
    exact h.of_parts h.busSound (h.clockTimely.register hahead) (State.cpuFits_register hwaiting h.cpu hnone) rfl
      (List.Subset.refl _)

theorem State.Inv.barrier (h : s.Inv) {start cycles : Nat} (hwaiting : s.phase = .waiting start cycles) :
    (barrier start cycles s).Inv := by
  have hentered := h.barrierStep hwaiting
  rcases barrier_cases start cycles s with heq | ⟨target, hphase, heq⟩ <;> rw [heq]
  · exact hentered
  · exact (hentered.setClock (Clock.evolves_tickTimes _ _)).barrierStep (hphase.trans hwaiting)

/-- The host's `reset()` leaves the clock, on which the CPU has no entry outside the barrier, alone. -/
theorem State.Inv.afterReset (h : s.Inv) (houtside : s.phase.inBarrier = false) : s.afterReset.Inv :=
  h.of_parts ((afterReset_accessed s).sound h.busSound.afterBusReset) h.clockTimely
    ((State.cpuFits_iff_of_outside rfl).mpr (h.cpuEntries houtside)) rfl (List.Subset.refl _)

/-- The host's `new` constructs the CPU on a sound bus and a sound clock. -/
theorem State.Inv.construct (h : s.Inv) {b : Bus} {c : Clock} {r : ClockRef} (hb : b.Sound) (hc : c.Sound)
    (hvalid : r.valid = true) : (State.construct b c r s.agenda).Inv where
  memory := hb.1
  image := hb.2
  divisor := hvalid
  pending w hmem := (hc.1 w hmem).2
  reached r hmem := (hc.2 r hmem).2
  cpu := (State.cpuFits_iff_of_outside rfl).mpr hc.cpuEntries
  givenBus := h.givenBus
  givenClock := h.givenClock

/-- Whatever a step does keeps the invariant, if what a `new` gives is a bus and a clock. -/
theorem StepsTo.inv {next : Option Move} (h : StepsTo next s t) (hs : s.Inv)
    (hbus : ∀ n c r, next = some (.construct (.other n) c r) → n.Sound)
    (hclock : ∀ b n r, next = some (.construct b (.other n) r) → n.Sound) : t.Inv := by
  cases h with
  | instruction hready hexec => exact hs.instruction hready hexec
  | unmapped hready op => exact hs.badOpcode hready op
  | barrierStep hwaiting => exact hs.barrierStep hwaiting
  | barrier hwaiting => exact hs.barrier hwaiting
  | clock hmove => exact hs.setClock hmove.evolves
  | otherRead addr => exact hs.setBus hs.busSound
  | otherWrite addr v => exact hs.setBus ⟨Bus.stored_wf addr v hs.memory, hs.image⟩
  | reset houtside => exact hs.afterReset houtside
  | @construct b c r hnext houtside hvalid =>
    refine hs.construct (GivenBus.pick_sound hs.busSound fun n hn => hbus n c r (hn ▸ hnext))
      (GivenClock.pick_sound ?_ fun n hn => hclock b n r (hn ▸ hnext)) hvalid
    exact Clock.sound_iff.mpr ⟨hs.clockTimely, hs.cpuEntries houtside⟩

end

/-- Settles O20, by the cases of what a step can do. -/
theorem everyStepKeepsTheInvariant : Obligations.EveryStepKeepsTheInvariant := by
  intro s t hs h
  refine (step_stepsTo h).inv (hs.setAgenda (List.tail_subset s.agenda)) ?_ ?_
  · exact fun n c r hnext => hs.givenBus n c r (List.mem_of_head? hnext)
  · exact fun b n r hnext => hs.givenClock b n r (List.mem_of_head? hnext)

/-- Settles O21: after reset RAM, the image, the waiters and the list of moves are empty, and the CPU is Ready. -/
theorem resetMeetsTheInvariant : Obligations.ResetMeetsTheInvariant where
  memory := State.reset_memory_wf
  image := nofun
  divisor := rfl
  pending := nofun
  reached := nofun
  cpu := (State.cpuFits_iff_of_outside rfl).mpr rfl
  givenBus := nofun
  givenClock := nofun

/-- Settles O5: the fields of the state after reset, and each flag of its status byte. -/
theorem resetStateRegisters : Obligations.ResetStateRegisters := by
  refine ⟨rfl, rfl, rfl, rfl, rfl, rfl, rfl, ?_⟩
  intro f
  cases f <;> rfl

end Sys2Proof.Machine
end

section
/-! PROOFS. The bus as all agents share it (`20_memory.md` R42, R55, R57): its event history along every step, another
agent's access, and a store that the next fetch sees. -/

namespace Sys2Proof.Machine

/-! The event history. A later history has an earlier one as its suffix, the newest event being the first. -/

theorem Bus.Accessed.history_suffix {b c : Bus} (h : b.Accessed c) : b.history <:+ c.history := by
  obtain ⟨evs, hhistory, -⟩ := h.history_eq_append
  exact ⟨evs, hhistory.symm⟩

@[simp] theorem barrierStep_bus (start cycles : Nat) (s : State) : (barrierStep start cycles s).bus = s.bus := by
  rcases barrierStep_cases start cycles s with ⟨-, h⟩ | h | ⟨-, -, h⟩ | ⟨-, -, -, h⟩ <;> rw [h] <;> rfl

/-- The barrier makes no bus access (R76). -/
theorem barrier_bus (start cycles : Nat) (s : State) : (barrier start cycles s).bus = s.bus := by
  rcases barrier_cases start cycles s with h | ⟨target, -, h⟩ <;> rw [h]
  · exact barrierStep_bus start cycles s
  · simp [advanceClock]

theorem afterReset_history_suffix (s : State) : s.bus.history <:+ s.afterReset.bus.history := by
  have hreset : s.bus.history <:+ s.bus.afterBusReset.history := List.suffix_cons _ _
  exact hreset.trans (afterReset_accessed s).history_suffix

/-- Whatever a step does, it leaves the recorded events as they are (R42). -/
theorem StepsTo.history_suffix {next : Option Move} {s t : State} (h : StepsTo next s t) :
    s.bus.history <:+ t.bus.history := by
  cases h with
  | @instruction i n t _ hexec => exact ((afterFetch_cpuFrame n s).trans (exec_cpuFrame hexec)).bus.history_suffix
  | unmapped _ op => exact (afterFetch_cpuFrame 1 s).bus.history_suffix
  | barrierStep _ => rw [barrierStep_bus]
  | barrier _ => rw [barrier_bus]
  | clock _ => exact List.suffix_rfl
  | otherRead addr => exact List.suffix_cons _ _
  | otherWrite addr v => exact List.suffix_cons _ _
  | reset _ => exact afterReset_history_suffix s
  | @construct b c r _ _ _ => exact (GivenBus.pick_history b s.bus).symm ▸ List.suffix_rfl

/-- Settles O22, by the cases of what a step can do. -/
theorem eventHistoryOnlyGrows : Obligations.EventHistoryOnlyGrows := by
  intro s t h
  obtain ⟨evs, hhistory⟩ := (step_stepsTo h).history_suffix
  exact ⟨evs, hhistory.symm⟩

/-! Another agent's access. -/

/-- A listed move is the next step's. -/
theorem step_of_agenda_cons {s : State} {m : Move} {rest : List Move} (h : s.agenda = m :: rest) :
    step s = perform m (s.setAgenda rest) := by
  simp only [step, machineStep, h]

theorem Bus.stored_of_device {b : Bus} {a : Word} (v : Byte) (h : b.isDevice a = true) : b.stored a v = b.mem :=
  if_pos h

theorem Bus.drawn_eq_add (b : Bus) (a : Word) : b.drawn a = b.draws + (if b.isDevice a then 1 else 0) := by
  unfold Bus.drawn
  split <;> rfl

/-- Settles O31: the next state of each of the two moves is written out; RAM takes the other agent's byte as it takes one
that the CPU stores. -/
theorem otherAgentsAccessOnlyTheBus : Obligations.OtherAgentsAccessOnlyTheBus := by
  constructor
  · intro s rest addr v h
    refine ⟨_, step_of_agenda_cons h, rfl, ?_, ?_, ?_⟩
    · exact Bus.peek_afterWrite_same v
    · exact Bus.stored_of_device v
    · intro c hc
      exact Bus.peek_afterWrite_other s.bus v (List.ne_of_not_mem_cons hc)
  · intro s rest addr h
    exact ⟨_, step_of_agenda_cons h, rfl, Bus.drawn_eq_add s.bus addr, Bus.value_of_ram⟩

/-- Settles O13: the fetch reads the byte that the store has left in RAM. -/
theorem storeIsSeenByNextFetch : Obligations.StoreIsSeenByNextFetch := by
  intro s addr v hram
  calc (fetchPC ((busWrite addr v s).setPC addr)).1
    _ = (s.bus.afterWrite addr v).value addr := rfl
    _ = (s.bus.afterWrite addr v).peek addr := Bus.value_of_ram hram
    _ = v := Bus.peek_afterWrite_same v hram

end Sys2Proof.Machine
end

section
/-! PROOFS. The instructions that store nothing (`20_memory.md` R47), by the shapes of `40_fetch_execute.md` R79. -/

namespace Sys2Proof.Machine

/-- An instruction run from `s` completes and leaves RAM as it was. -/
def CompletesKeepingMem (s : State) (r : Result) : Prop := ∃ t, r = .next t ∧ t.bus.mem = s.bus.mem

theorem done_completesKeepingMem {s t : State} (c : Nat) (h : t.bus.mem = s.bus.mem) :
    CompletesKeepingMem s (done c t) :=
  ⟨_, done_eq c t, h⟩

theorem readInstr_completesKeepingMem (base : Nat) (o : Operand) {f : Byte → State → State}
    (hf : ∀ v u, (f v u).bus = u.bus) (s : State) : CompletesKeepingMem s (readInstr base o f s) :=
  done_completesKeepingMem _ (by rw [hf, load_mem])

theorem jumpInstr_completesKeepingMem (base : Nat) (o : Operand) (s : State) :
    CompletesKeepingMem s (jumpInstr base o s) :=
  done_completesKeepingMem base (locate_mem o s)

theorem branchInstr_completesKeepingMem (taken : Bool) (off : Byte) (s : State) :
    CompletesKeepingMem s (branchInstr taken off s) := by
  rw [branchInstr_eq]
  exact done_completesKeepingMem _ rfl

/-- What is no store, push or read-modify-write of memory works on registers alone, pulls, jumps, branches or, in the last
case, reads an operand. -/
theorem exec_completesKeepingMem (i : Instr) (s : State)
    (h : i.row.mnemonic ∉ memoryWriters ∨ i.row.mode = .accumulator) : CompletesKeepingMem s (exec i s) := by
  cases i with
  | staIndexedIndirectX _ | styZeropage _ | staZeropage _ | stxZeropage _ | styAbsolute _ | staAbsolute _
  | stxAbsolute _ | staIndirectIndexedY _ | styZeropageX _ | staZeropageX _ | stxZeropageY _ | staAbsoluteY _
  | staAbsoluteX _ | aslZeropage _ | aslAbsolute _ | aslZeropageX _ | aslAbsoluteX _ | rolZeropage _ | rolAbsolute _
  | rolZeropageX _ | rolAbsoluteX _ | lsrZeropage _ | lsrAbsolute _ | lsrZeropageX _ | lsrAbsoluteX _
  | rorZeropage _ | rorAbsolute _ | rorZeropageX _ | rorAbsoluteX _ | decZeropage _ | decAbsolute _
  | decZeropageX _ | decAbsoluteX _ | incZeropage _ | incAbsolute _ | incZeropageX _ | incAbsoluteX _
  | pha | php | jsr _ | brk =>
    exact absurd h (by simp [Instr.row, memoryWriters])
  | aslAccumulator | lsrAccumulator | rolAccumulator | rorAccumulator
  | tax | tay | txa | tya | tsx | txs | inx | iny | dex | dey | clc | cld | cli | clv | sec | sed | sei | nop =>
    exact done_completesKeepingMem 2 rfl
  | pla | plp => exact done_completesKeepingMem 4 rfl
  | rts | rti => exact done_completesKeepingMem 6 rfl
  | jmpAbsolute _ | jmpIndirect _ => exact jumpInstr_completesKeepingMem _ _ s
  | bpl _ | bmi _ | bvc _ | bvs _ | bcc _ | bcs _ | bne _ | beq _ => exact branchInstr_completesKeepingMem _ _ s
  | _ => exact readInstr_completesKeepingMem _ _ (by intros; rfl) s

/-- Settles O18: RAM is the same list, so every byte of it is the same. -/
theorem memoryWrittenOnlyByStoringInstructions : Obligations.MemoryWrittenOnlyByStoringInstructions := by
  intro i s t h hkeeps addr _
  obtain ⟨u, hu, hmem⟩ := exec_completesKeepingMem i s hkeeps
  obtain rfl : u = t := Host.Outcome.next.inj (hu.symm.trans h)
  rw [Bus.peek, Bus.peek, hmem]

end Sys2Proof.Machine
end

section
/-! PROOFS. The stack (`20_memory.md` R48 to R54): its accesses stay in the stack page, and what is pushed is pulled back. -/

namespace Sys2Proof.Machine

/-! The addresses of the accesses. -/

theorem inStackPage_stackAddr (sp : Byte) : inStackPage (stackAddr sp) := by
  have := sp.isLt
  rw [inStackPage, stackAddr_toNat]
  omega

/-- The bus has gone from one state to the other by `n` transactions, all of them in the stack page. -/
def Bus.StackAccessed (n : Nat) (b c : Bus) : Prop :=
  ∃ evs, c.history = evs ++ b.history ∧ evs.length = n ∧ ∀ e ∈ evs, ∃ a, e.address = some a ∧ inStackPage a

theorem Bus.StackAccessed.trans {m n : Nat} {b c d : Bus} (hbc : b.StackAccessed m c) (hcd : c.StackAccessed n d) :
    b.StackAccessed (n + m) d := by
  obtain ⟨evs, hc, hm, hevs⟩ := hbc
  obtain ⟨evs', hd, hn, hevs'⟩ := hcd
  refine ⟨evs' ++ evs, by rw [hd, hc, List.append_assoc], by rw [List.length_append, hn, hm], ?_⟩
  exact List.forall_mem_append.2 ⟨hevs', hevs⟩

theorem push_stackAccessed (v : Byte) (s : State) : s.bus.StackAccessed 1 (push v s).bus :=
  ⟨[_], rfl, rfl, List.forall_mem_singleton.2 ⟨_, rfl, inStackPage_stackAddr s.sp⟩⟩

theorem pull_stackAccessed (s : State) : s.bus.StackAccessed 1 (pull s).2.bus :=
  ⟨[_], rfl, rfl, List.forall_mem_singleton.2 ⟨_, rfl, inStackPage_stackAddr (s.sp + 1#8)⟩⟩

theorem push16_stackAccessed (v : Word) (s : State) : s.bus.StackAccessed 2 (push16 v s).bus :=
  (push_stackAccessed (hi v) s).trans (push_stackAccessed (lo v) _)

theorem pull16_stackAccessed (s : State) : s.bus.StackAccessed 2 (pull16 s).2.bus :=
  (pull_stackAccessed s).trans (pull_stackAccessed _)

theorem returnFromException_stackAccessed (s : State) : s.bus.StackAccessed 3 (returnFromException s).bus :=
  (pull_stackAccessed s).trans (pull16_stackAccessed ((pull s).2.setP (pull s).1))

theorem exceptionPushes_stackAccessed (ret : Word) (s : State) : s.bus.StackAccessed 3 (exceptionPushes ret s) :=
  (push16_stackAccessed ret s).trans (push_stackAccessed (pushedStatus s.p) _)

/-- An exception reads its vector after its pushes, low byte first (R162). -/
theorem takeException_history (ret : Word) (s : State) :
    (takeException ret s).bus.history =
      .read 0xFFFF#16 (((exceptionPushes ret s).afterRead breakVector).value (breakVector + 1#16)) ::
        .read 0xFFFE#16 ((exceptionPushes ret s).value breakVector) :: (exceptionPushes ret s).history := by
  rw [takeException_eq]
  rfl

/-- The stack instructions of R50 to R53, BRK aside, access the stack page alone. -/
theorem exec_stackAccessed {i : Instr} {s t : State} (h : exec i s = .next t)
    (hi : i.row.mnemonic ∈ [Mnemonic.pha, .php, .pla, .plp, .jsr, .rts, .rti]) :
    ∃ n, 0 < n ∧ s.bus.StackAccessed n t.bus := by
  cases i with
  | pha | php =>
    cases h
    exact ⟨1, by decide, push_stackAccessed _ s⟩
  | pla | plp =>
    cases h
    exact ⟨1, by decide, pull_stackAccessed s⟩
  | jsr _ =>
    cases h
    exact ⟨2, by decide, push16_stackAccessed _ s⟩
  | rts =>
    cases h
    exact ⟨2, by decide, pull16_stackAccessed s⟩
  | rti =>
    cases h
    exact ⟨3, by decide, returnFromException_stackAccessed s⟩
  | _ => exact absurd hi (by simp [Instr.row])

/-- Settles O19: every push and pull is an access of the stack page. -/
theorem stackAccessesStayInTheStackPage : Obligations.StackAccessesStayInTheStackPage := by
  constructor
  · intro i s t h hi
    obtain ⟨n, hn, evs, hhistory, rfl, hevs⟩ := exec_stackAccessed h hi
    exact ⟨evs, hhistory, List.length_pos_iff.mp hn, hevs⟩
  · intro s t h
    cases h
    obtain ⟨evs, hhistory, hlength, hevs⟩ := exceptionPushes_stackAccessed (s.pc + 1#16) s
    rw [State.finish_bus, takeException_history, hhistory]
    exact ⟨_, _, evs, rfl, hlength, hevs⟩

/-! What the pulls read. -/

/-- The stack page is bound to RAM. -/
def Bus.StackInRam (b : Bus) : Prop := ∀ sp, b.isDevice (stackAddr sp) = false

@[simp] theorem Bus.afterRead_stackInRam (b : Bus) (a : Word) : (b.afterRead a).StackInRam ↔ b.StackInRam := .rfl
@[simp] theorem Bus.afterWrite_stackInRam (b : Bus) (a : Word) (v : Byte) :
    (b.afterWrite a v).StackInRam ↔ b.StackInRam := .rfl

section
variable {b : Bus} (hram : b.StackInRam)
include hram

theorem Bus.value_stack_afterRead (a : Word) (sp : Byte) :
    (b.afterRead a).value (stackAddr sp) = b.value (stackAddr sp) := by
  rw [Bus.value_of_ram (hram sp), Bus.value_of_ram ((Bus.afterRead_stackInRam b a).2 hram sp), Bus.afterRead_peek]

theorem Bus.value_stack_afterWrite (sp sp' : Byte) (v : Byte) :
    (b.afterWrite (stackAddr sp) v).value (stackAddr sp') = if sp' = sp then v else b.value (stackAddr sp') := by
  rw [Bus.value_of_ram (hram sp'), Bus.value_of_ram ((Bus.afterWrite_stackInRam b _ v).2 hram sp'),
    Bus.peek_afterWrite]
  simp [stackAddr_inj, hram sp]

end

/-- Up to three bytes pushed in a row lie at different addresses. -/
theorem sp_ne_sub (sp : Byte) : sp ≠ sp - 1#8 ∧ sp ≠ sp - 1#8 - 1#8 := by
  constructor <;> bv_omega

/-- At the end of an instruction that pushed a byte, a pull gives back the byte and SP. -/
theorem pull_push {s : State} (hram : s.bus.StackInRam) (v : Byte) (cycles : Nat) :
    let u := pull ((push v s).finish cycles)
    u.1 = v ∧ u.2.sp = s.sp := by
  simp [push_eq, Bus.value_stack_afterWrite hram]

/-- At the end of an instruction that pushed a word and went to `w`, a pull gives back the word and SP. -/
theorem pull16_push16 {s : State} (hram : s.bus.StackInRam) (v w : Word) (cycles : Nat) :
    let u := pull16 (((push16 v s).setPC w).finish cycles)
    u.1 = v ∧ u.2.sp = s.sp ∧ u.2.p = s.p := by
  simp [push16_eq, pull16_fst, pull16_snd, Bus.value_stack_afterWrite, Bus.value_stack_afterRead, hram, sp_ne_sub]

/-- The return from an exception gives back the return address, SP, and P as it was pushed. -/
theorem returnFromException_takeException {s : State} (hram : s.bus.StackInRam) (ret : Word) (cycles : Nat) :
    let u := returnFromException ((takeException ret s).finish cycles)
    u.pc = ret ∧ u.sp = s.sp ∧ u.p = pushedStatus s.p := by
  simp [takeException_eq, returnFromException_eq, exceptionPushes, Bus.value_stack_afterWrite,
    Bus.value_stack_afterRead, hram, sp_ne_sub]

/-- Settles O60: each pull follows the pushes it answers, with nothing between them that touches the stack or SP. -/
theorem pullsGiveBackWhatPushesStored : Obligations.PullsGiveBackWhatPushesStored := by
  intro s t u hram
  refine ⟨?_, ?_, ?_⟩
  · intro ht hu
    obtain rfl : (push s.a s).finish 3 = t := Host.Outcome.next.inj ht
    obtain rfl : State.finish _ 4 = u := Host.Outcome.next.inj hu
    exact pull_push hram s.a 3
  · intro w ht hu
    obtain rfl : ((push16 (s.pc - 1#16) s).setPC w).finish 6 = t := Host.Outcome.next.inj ht
    obtain rfl : State.finish _ 6 = u := Host.Outcome.next.inj hu
    obtain ⟨hpc, hsp, hp⟩ := pull16_push16 hram (s.pc - 1#16) w 6
    rw [State.finish_pc, State.setPC_pc, hpc]
    exact ⟨BitVec.sub_add_cancel s.pc 1#16, hsp, hp⟩
  · intro ht hu
    obtain rfl : (takeException (s.pc + 1#16) s).finish 7 = t := Host.Outcome.next.inj ht
    obtain rfl : State.finish _ 6 = u := Host.Outcome.next.inj hu
    obtain ⟨hpc, hsp, hp⟩ := returnFromException_takeException hram (s.pc + 1#16) 7
    rw [State.finish_pc, State.finish_sp, State.finish_p, hp]
    refine ⟨hpc, hsp, getFlag_pushedStatus .b s.p, fun f hf => ?_⟩
    rw [getFlag_pushedStatus, if_neg (List.ne_of_not_mem_cons hf)]

end Sys2Proof.Machine
end

section
/-! PROOFS. The decoder and the encoder undo each other (`30_encoding.md` R60 to R67): what an instruction form reads from
its operand bytes is tied to the opcode table once in each direction, and the statements follow. -/

namespace Sys2Proof

open Sys2Proof.Machine

/-! From an instruction to its bytes and back. -/

/-- The operand bytes from which a form makes an instruction, lowest address first (R62). -/
inductive OpForm.Reads : OpForm → List Byte → Instr → Prop
  | alone (i : Instr) : Reads (.alone i) [] i
  | byte (f : Byte → Instr) (b : Byte) : Reads (.byte f) [b] (f b)
  | word (f : Word → Instr) (w : Word) : Reads (.word f) [lo w, hi w] (f w)

/-- One case for each row of the opcode table (R64): the opcode of an instruction selects a form that makes the
instruction from its operand bytes. -/
theorem exists_decodeOpcode_opcode (i : Instr) :
    ∃ form, decodeOpcode i.row.opcode = some form ∧ form.Reads i.operandBytes i := by
  cases i <;> exact ⟨_, rfl, by constructor⟩

/-- The decoder takes the operand bytes of the selected form and leaves what follows them. -/
theorem decode_of_reads {op : Byte} {form : OpForm} {operand : List Byte} {i : Instr}
    (hop : decodeOpcode op = some form) (hreads : form.Reads operand i) (rest : List Byte) :
    decode (op :: operand ++ rest) = .ok (i, rest) := by
  cases hreads with
  | alone i => simp [decode, hop]
  | byte f b => simp [decode, hop]
  | word f w => simp [decode, hop]

/-- Settles O1: the opcode selects the instruction's own form, which reads back the operand. -/
theorem decodeOfEncodeIsIdentity : Obligations.DecodeOfEncodeIsIdentity := by
  intro i rest
  obtain ⟨form, hop, hreads⟩ := exists_decodeOpcode_opcode i
  exact decode_of_reads hop hreads rest

/-! From well-formed bytes to their instruction and back. -/

theorem instructionLength_of_decodeOpcode {op : Byte} {form : OpForm} (hop : decodeOpcode op = some form) :
    instructionLength op = some form.length := by
  rw [← decodeOpcode_length, hop, Option.map_some]

/-- Operand bytes are never checked (R67): any as many as the form asks for make an instruction. -/
theorem OpForm.exists_reads {form : OpForm} {operand : List Byte} (hlength : form.length = operand.length + 1) :
    ∃ i, form.Reads operand i := by
  cases form with
  | alone i =>
    obtain rfl : operand = [] := List.eq_nil_of_length_eq_zero (Nat.succ.inj hlength).symm
    exact ⟨i, .alone i⟩
  | byte f =>
    obtain ⟨b, rfl⟩ := List.length_eq_one_iff.1 (Nat.succ.inj hlength).symm
    exact ⟨f b, .byte f b⟩
  | word f =>
    obtain ⟨l, h, rfl⟩ := List.length_eq_two.1 (Nat.succ.inj hlength).symm
    exact ⟨f (w16 l h), by simpa using OpForm.Reads.word f (w16 l h)⟩

theorem exists_decode_of_wellFormedBytes {bs : List Byte} (hwf : wellFormedBytes bs = true) :
    ∃ i, decode bs = .ok (i, []) := by
  cases bs with
  | nil => cases hwf
  | cons op operand =>
    have hlength : instructionLength op = some (operand.length + 1) := by simpa [wellFormedBytes] using hwf
    rw [← decodeOpcode_length, Option.map_eq_some_iff] at hlength
    obtain ⟨form, hop, hform⟩ := hlength
    obtain ⟨i, hreads⟩ := OpForm.exists_reads hform
    exact ⟨i, by simpa using decode_of_reads hop hreads []⟩

theorem wellFormedBytes_of_decode {bs : List Byte} {i : Instr} (h : decode bs = .ok (i, [])) :
    wellFormedBytes bs = true := by
  obtain ⟨op, ⟨hop, rfl⟩ | ⟨f, b, hop, -, rfl⟩ | ⟨f, lb, hb, hop, -, rfl⟩⟩ := decode_ok_cases h
  all_goals simp [wellFormedBytes, instructionLength_of_decodeOpcode hop, OpForm.length]

theorem decode_eq_ok_nil_iff {bs : List Byte} {i : Instr} : decode bs = .ok (i, []) ↔ encode i = bs := by
  constructor
  · intro h
    simpa using (eq_encode_append_of_decode h).1.symm
  · rintro rfl
    simpa using decodeOfEncodeIsIdentity i []

/-- Settles O2: a well-formed string has as many bytes as the form that its opcode selects asks for. -/
theorem encodeOfDecodeIsIdentity : Obligations.EncodeOfDecodeIsIdentity := by
  refine ⟨fun bs hwf => ?_, fun bs i h => ⟨wellFormedBytes_of_decode h, decode_eq_ok_nil_iff.1 h⟩⟩
  obtain ⟨i, h⟩ := exists_decode_of_wellFormedBytes hwf
  exact ⟨i, h, decode_eq_ok_nil_iff.1 h⟩

/-! The unmapped opcodes and the sample words. -/

theorem instructionLength_isNone_iff (op : Byte) :
    (instructionLength op).isNone = true ↔ op.toNat ∈ unmappedOpcodes := by
  unfold instructionLength
  split
  next hunmapped => simp [hunmapped]
  next hmapped => split_ifs <;> simp [hmapped]

/-- Settles O3: the decoder answers none where the spec's lists give no length. -/
theorem unmappedOpcodesAreTheListed105 : Obligations.UnmappedOpcodesAreTheListed105 := by
  refine ⟨by decide, by decide, fun op => ?_⟩
  rw [← instructionLength_isNone_iff, ← decodeOpcode_length, Option.isNone_map]

/-- Settles O4: each word that decodes is its instruction's encoding, and 0x89 is unmapped. -/
theorem sampleWordsDecode : Obligations.SampleWordsDecode := by
  simp only [Obligations.SampleWordsDecode, decode_eq_ok_nil_iff]
  and_intros <;> rfl

end Sys2Proof
end

section
/-! PROOFS. The flag logic of `40_fetch_execute.md` section 3: Z and N (R95), and binary and BCD addition and subtraction
(R96 to R102), each as the numbers that its bits stand for. -/

namespace Sys2Proof.Machine

/-! Z and N. -/

theorem getFlag_setZN (f : Flag) (v p : Byte) :
    getFlag f (setZN v p) = if f = .n then v.getLsbD 7 else if f = .z then v == 0#8 else getFlag f p := by
  rw [setZN, getFlag_setFlag, getFlag_setFlag]
  rfl

/-- Settles O32: of the two writes the one of N comes last, and neither reaches another flag. -/
theorem setZNSetsZeroAndNegative : Obligations.SetZNSetsZeroAndNegative := by
  refine fun v p => ⟨getFlag_setZN .z v p, getFlag_setZN .n v p, fun f hf => ?_⟩
  obtain ⟨hz, hn⟩ : f ≠ .z ∧ f ≠ .n := by simpa using hf
  rw [getFlag_setZN, if_neg hn, if_neg hz]

/-! The sign of a byte. -/

theorem getLsbD_seven_eq_decide (x : Byte) : x.getLsbD 7 = decide (128 ≤ x.toNat) := BitVec.msb_eq_decide x

theorem and_0x80_ne_zero (x : Byte) : (x &&& 0x80#8 != 0#8) = x.getLsbD 7 := by
  revert x
  decide

theorem toInt_eq_sub_of_sign (x : Byte) : x.toInt = (x.toNat : Int) - if 128 ≤ x.toNat then 256 else 0 := by
  rw [BitVec.toInt_eq_toNat_cond]
  split <;> split <;> omega

theorem vAdd_iff_signs (a b r : Byte) :
    vAdd a b r = true ↔ a.getLsbD 7 = b.getLsbD 7 ∧ r.getLsbD 7 ≠ a.getLsbD 7 := by
  rw [vAdd, and_0x80_ne_zero]
  simp only [BitVec.getLsbD_and, BitVec.getLsbD_not, BitVec.getLsbD_xor]
  cases a.getLsbD 7 <;> cases b.getLsbD 7 <;> simp

theorem vSub_iff_signs (a b r : Byte) :
    vSub a b r = true ↔ a.getLsbD 7 ≠ b.getLsbD 7 ∧ r.getLsbD 7 ≠ a.getLsbD 7 := by
  rw [vSub, and_0x80_ne_zero]
  simp only [BitVec.getLsbD_and, BitVec.getLsbD_xor]
  cases a.getLsbD 7 <;> cases b.getLsbD 7 <;> simp

/-! Binary addition and subtraction. -/

theorem addBin_toNat (a b : Byte) (c : Bool) : (addBin a b c).1.toNat = (a.toNat + b.toNat + c.toNat) % 256 :=
  BitVec.toNat_ofNat ..

theorem subBin_toNat (a b : Byte) (c : Bool) :
    ((subBin a b c).1.toNat : Int) = ((a.toNat : Int) - b.toNat - (1 - (c.toNat : Int))) % 256 := by
  rw [subBin, BitVec.toNat_ofInt]
  omega

/-- V after an addition: the sum of the signed operands does not fit in 8 bits (R97). -/
theorem vAdd_addBin_iff (a b : Byte) (c : Bool) : vAdd a b (addBin a b c).1 = true ↔
    a.toInt + b.toInt + (c.toNat : Int) < -128 ∨ 127 < a.toInt + b.toInt + (c.toNat : Int) := by
  have ha := a.isLt
  have hb := b.isLt
  have hc := c.toNat_le
  rw [vAdd_iff_signs]
  simp only [getLsbD_seven_eq_decide, decide_eq_decide, ne_eq, addBin_toNat, toInt_eq_sub_of_sign]
  split <;> split <;> omega

/-- V after a subtraction: the difference of the signed operands does not fit in 8 bits (R99). -/
theorem vSub_subBin_iff (a b : Byte) (c : Bool) : vSub a b (subBin a b c).1 = true ↔
    a.toInt - b.toInt - (1 - (c.toNat : Int)) < -128 ∨ 127 < a.toInt - b.toInt - (1 - (c.toNat : Int)) := by
  have ha := a.isLt
  have hb := b.isLt
  have hc := c.toNat_le
  have hr := subBin_toNat a b c
  rw [vSub_iff_signs]
  simp only [getLsbD_seven_eq_decide, decide_eq_decide, ne_eq, toInt_eq_sub_of_sign]
  split <;> split <;> omega

/-- Settles O33: the sum and the carry as `addBin` gives them, and V read off the sign bits. -/
theorem binaryAdditionAndItsOverflow : Obligations.BinaryAdditionAndItsOverflow :=
  fun a b c => ⟨addBin_toNat a b c, decide_eq_true_iff, vAdd_iff_signs a b, vAdd_addBin_iff a b c⟩

/-- Settles O34: the difference and "not borrow" as `subBin` gives them, and V read off the sign bits. -/
theorem binarySubtractionAndItsOverflow : Obligations.BinarySubtractionAndItsOverflow :=
  fun a b c => ⟨subBin_toNat a b c, decide_eq_true_iff, vSub_iff_signs a b, vSub_subBin_iff a b c⟩

theorem toNat_xor_0xFF (m : Byte) : (m ^^^ 0xFF#8).toNat = 255 - m.toNat := by
  revert m
  decide

/-- Subtracting is adding the complement (R98). -/
theorem subBin_eq_addBin_xor (a m : Byte) (c : Bool) : subBin a m c = addBin a (m ^^^ 0xFF#8) c := by
  have hm := m.isLt
  apply Prod.ext
  · apply BitVec.eq_of_toNat_eq
    have hsub := subBin_toNat a m c
    rw [addBin_toNat, toNat_xor_0xFF]
    omega
  · simp only [subBin, addBin, toNat_xor_0xFF, decide_eq_decide]
    omega

/-- Subtracting what was added, with the carry-in inverted, gives the first operand back (R130). -/
theorem subBin_addBin_not (a m : Byte) (c : Bool) : (subBin (addBin a m c).1 m (!c)).1 = a := by
  have ha := a.isLt
  have hadd := addBin_toNat a m c
  have hsub := subBin_toNat (addBin a m c).1 m (!c)
  apply BitVec.eq_of_toNat_eq
  cases c <;> simp only [Bool.not_true, Bool.not_false, Bool.toNat_true, Bool.toNat_false] at hadd hsub ⊢ <;> omega

/-- Settles O37: both halves, from the sum and the difference as numbers. -/
theorem binaryAddThenSubtractRoundTrip : Obligations.BinaryAddThenSubtractRoundTrip :=
  fun a m c => ⟨subBin_eq_addBin_xor a m c, subBin_addBin_not a m c⟩

/-! BCD addition and subtraction. -/

theorem and_0x0F (n : Nat) : n &&& 0x0F = n % 16 := Nat.and_two_pow_sub_one_eq_mod n 4

theorem and_0xF0 (n : Nat) : n &&& 0xF0 = 16 * (n / 16 % 16) := by
  have hquot : (n &&& 0xF0) / 2 ^ 4 = n / 2 ^ 4 &&& 0x0F := Nat.and_div_two_pow
  have hrem : (n &&& 0xF0) % 2 ^ 4 = n % 2 ^ 4 &&& 0 := Nat.and_mod_two_pow
  rw [and_0x0F] at hquot
  rw [Nat.and_zero] at hrem
  omega

/-- The low digits and the carry, added as numbers. -/
theorem bcdLow_eq (a b : Byte) (c : Bool) : bcdLow a b c = a.toNat % 16 + b.toNat % 16 + c.toNat := by
  rw [bcdLow, and_0x0F, and_0x0F]

/-- The high digits and the carry out of the low ones, added as numbers. -/
theorem bcdHigh_eq (a b : Byte) (c : Bool) :
    bcdHigh a b c = 16 * (a.toNat / 16) + 16 * (b.toNat / 16) + if 10 ≤ bcdLow a b c then 16 else 0 := by
  have ha := a.isLt
  have hb := b.isLt
  rw [bcdHigh, and_0xF0, and_0xF0]
  omega

/-- Two digits, each cut to four bits, make one byte. -/
theorem ofNat_digits_toNat (h l : Nat) :
    (BitVec.ofNat 8 ((h &&& 0xF0) ||| (l &&& 0x0F))).toNat = 16 * (h / 16 % 16) + l % 16 := by
  have hl : l % 16 < 2 ^ 4 := Nat.mod_lt _ (by decide)
  rw [and_0xF0, and_0x0F, ← Nat.two_pow_add_eq_or_of_lt hl, BitVec.toNat_ofNat]
  omega

/-- The digits of a BCD sum (R101). -/
theorem addBcd_toNat (a b : Byte) (c : Bool) :
    (addBcd a b c).1.toNat =
      16 * ((if 0xA0 ≤ bcdHigh a b c then bcdHigh a b c - 0xA0 else bcdHigh a b c) / 16 % 16) +
        (if 10 ≤ bcdLow a b c then bcdLow a b c - 10 else bcdLow a b c) % 16 :=
  ofNat_digits_toNat ..

theorem addBcd_carry_iff (a b : Byte) (c : Bool) : (addBcd a b c).2 = true ↔ 0xA0 ≤ bcdHigh a b c := decide_eq_true_iff

/-- Each digit of a BCD sum of valid digits is the sum of the operands' digits, ten less from ten on (R101). -/
theorem addBcd_digits {a b : Byte} (ha : isBcd a) (hb : isBcd b) (c : Bool) :
    (addBcd a b c).1.toNat / 16 =
        (if 10 ≤ bcdHigh a b c / 16 then bcdHigh a b c / 16 - 10 else bcdHigh a b c / 16) ∧
      (addBcd a b c).1.toNat % 16 = if 10 ≤ bcdLow a b c then bcdLow a b c - 10 else bcdLow a b c := by
  have hc := c.toNat_le
  have hlow := bcdLow_eq a b c
  have hhigh := bcdHigh_eq a b c
  obtain ⟨hah, hal⟩ := ha
  obtain ⟨hbh, hbl⟩ := hb
  rw [addBcd_toNat]
  split_ifs at hhigh ⊢ <;> omega

/-- On packed BCD operands BCD addition is addition modulo 100. -/
theorem addBcd_of_isBcd {a b : Byte} (ha : isBcd a) (hb : isBcd b) (c : Bool) :
    isBcd (addBcd a b c).1 ∧ bcdValue (addBcd a b c).1 = (bcdValue a + bcdValue b + c.toNat) % 100 ∧
      ((addBcd a b c).2 = true ↔ 100 ≤ bcdValue a + bcdValue b + c.toNat) := by
  have hc := c.toNat_le
  have hlow := bcdLow_eq a b c
  have hhigh := bcdHigh_eq a b c
  obtain ⟨hdigit, hdigit'⟩ := addBcd_digits ha hb c
  obtain ⟨hah, hal⟩ := ha
  obtain ⟨hbh, hbl⟩ := hb
  rw [addBcd_carry_iff, isBcd, bcdValue, bcdValue, bcdValue, hdigit, hdigit']
  split_ifs at hhigh ⊢ <;> omega

/-- Settles O35: the digits on every pair of bytes, and from them the decimal reading. -/
theorem bcdAdditionOfValidDigits : Obligations.BcdAdditionOfValidDigits := by
  refine ⟨fun a b c => ?_, fun a b c ha hb => addBcd_of_isBcd ha hb c⟩
  have hsum := addBcd_toNat a b c
  have hcarry := addBcd_carry_iff a b c
  rw [bcdHigh_eq, bcdLow_eq] at hsum hcarry
  exact ⟨hsum, hcarry⟩

/-- The 99's complement of a packed BCD byte takes each digit from 9 (R102). -/
theorem complement_of_isBcd {b : Byte} (hb : isBcd b) :
    isBcd (0x99#8 - b) ∧ bcdValue (0x99#8 - b) + bcdValue b = 99 := by
  obtain ⟨hhigh, hlow⟩ := hb
  have hsub : (0x99#8 - b).toNat = 0x99 - b.toNat := BitVec.toNat_sub_of_le (by rw [BitVec.le_def]; simp; omega)
  rw [isBcd, bcdValue, bcdValue, hsub]
  omega

theorem complement_eq_ofInt (b : Byte) : 0x99#8 - b = BitVec.ofInt 8 (0x99 - (b.toNat : Int)) := by
  revert b
  decide

/-- Settles O36: the complement turns the difference into a sum, 100 above it unless the carry-in was a borrow. -/
theorem bcdSubtractionOfValidDigits : Obligations.BcdSubtractionOfValidDigits := by
  refine ⟨fun a b c => by rw [subBcd, complement_eq_ofInt], fun a b c ha hb => ?_⟩
  obtain ⟨hcomplement, hvalue⟩ := complement_of_isBcd hb
  obtain ⟨hbcd, hsum, hcarry⟩ := addBcd_of_isBcd ha hcomplement c
  refine ⟨hbcd, ?_, hcarry.trans ?_⟩
  · rw [subBcd, hsum]
    omega
  · omega

end Sys2Proof.Machine
end

section
/-! PROOFS. The addressing modes of `40_fetch_execute.md` section 2 (R80 to R90, R94), each as the numbers its addresses are,
and the operand read (R79). -/

namespace Sys2Proof.Machine

/-- An address is the zero-page address of the byte that has the same number. -/
theorem zext16_of_toNat_eq {b : Byte} {l : Word} (h : l.toNat = b.toNat) : zext16 b = l :=
  BitVec.eq_of_toNat_eq (by rw [zext16_toNat, h])

theorem byte_add_one_toNat (b : Byte) : (b + 1#8).toNat = (b.toNat + 1) % 256 := BitVec.toNat_add b 1#8

/-- The two bytes of a zero-page pointer, the second one's address wrapping within the page (R88, R89). -/
theorem zeropagePointer_eq {z : Byte} {l h : Word} (hl : l.toNat = z.toNat) (hh : h.toNat = (z.toNat + 1) % 256)
    (s : State) : zeropagePointer z s = readWord l h s := by
  rw [zeropagePointer, zext16_of_toNat_eq hl, zext16_of_toNat_eq (hh.trans (byte_add_one_toNat z).symm)]

theorem indexed_addr_toNat (base : Word) (index : Byte) (s : State) :
    (indexed base index s).addr.toNat = (base.toNat + index.toNat) % 65536 := by
  rw [indexed, BitVec.toNat_add, zext16_toNat]

/-- An indexed address crosses a page exactly if its high byte is not the base's (R94). -/
theorem indexed_crossed_iff (base : Word) (index : Byte) (s : State) :
    (indexed base index s).crossed = true ↔ base.toNat / 256 ≠ (base.toNat + index.toNat) % 65536 / 256 := by
  rw [← indexed_addr_toNat base index s, ← hi_toNat, ← hi_toNat, ne_eq, BitVec.toNat_inj]
  exact bne_iff_ne

/-- (indirect,X): the pointer at the indexed zero-page address (R88). -/
theorem locate_indexedIndirectX {z : Byte} {s : State} {l h : Word} (hl : l.toNat = (z.toNat + s.x.toNat) % 256)
    (hh : h.toNat = (z.toNat + s.x.toNat + 1) % 256) :
    locate (.indexedIndirectX z) s =
      { addr := (readWord l h s).1, crossed := false, state := (readWord l h s).2 } := by
  have hsum : (z + s.x).toNat = (z.toNat + s.x.toNat) % 256 := BitVec.toNat_add z s.x
  rw [locate, zeropagePointer_eq (hl.trans hsum.symm) (by rw [hh, hsum, Nat.mod_add_mod])]

/-- (indirect),Y: the pointer at the zero-page address, indexed (R89). -/
theorem locate_indirectIndexedY {z : Byte} {l h : Word} (hl : l.toNat = z.toNat) (hh : h.toNat = (z.toNat + 1) % 256)
    (s : State) :
    locate (.indirectIndexedY z) s = indexed (readWord l h s).1 s.y (readWord l h s).2 := by
  rw [locate, zeropagePointer_eq hl hh]

theorem readWord_fst_toNat (l h : Word) (s : State) :
    (readWord l h s).1.toNat = (s.bus.value l).toNat + 256 * ((s.bus.afterRead l).value h).toNat := by
  rw [readWord_fst, w16_toNat]

/-- Settles O38: the zero-page modes compute on bytes; the two pointer modes read the words above. -/
theorem zeroPageModesWrapWithinThePage : Obligations.ZeroPageModesWrapWithinThePage := by
  intro z s
  refine ⟨zext16_toNat z, rfl, (zext16_toNat _).trans (BitVec.toNat_add z s.x), rfl,
    (zext16_toNat _).trans (BitVec.toNat_add z s.y), rfl, fun l h hl hh => ?_, fun l h hl hh => ?_⟩
  · rw [locate_indexedIndirectX hl hh]
    exact ⟨readWord_fst_toNat l h s, rfl, rfl⟩
  · rw [locate_indirectIndexedY hl hh, indexed_addr_toNat, indexed_crossed_iff, readWord_fst_toNat]
    exact ⟨rfl, .rfl, rfl⟩

/-- The indirect jump's pointer, its high byte read from the same page (R87). -/
theorem locate_indirect {w h : Word}
    (hh : h.toNat = if w.toNat % 256 = 255 then w.toNat - 255 else w.toNat + 1) (s : State) :
    locate (.indirect w) s = { addr := (readWord w h s).1, crossed := false, state := (readWord w h s).2 } := by
  obtain rfl : h = pageWrapNext w := BitVec.eq_of_toNat_eq (hh.trans (pageWrapNext_toNat w).symm)
  rfl

/-- Settles O39: the two indexed modes are `indexed`, and the pointer's two bytes are those above. -/
theorem absoluteModesAndTheIndirectPageWrap : Obligations.AbsoluteModesAndTheIndirectPageWrap := by
  intro w s
  refine ⟨rfl, rfl, rfl, indexed_addr_toNat w s.x s, rfl, indexed_crossed_iff w s.x s, indexed_addr_toNat w s.y s, rfl,
    indexed_crossed_iff w s.y s, fun h hh => ?_⟩
  rw [locate_indirect hh]
  exact ⟨readWord_fst_toNat w h s, rfl, rfl⟩

/-- Settles O40: an operand in memory is read at the effective address, on the bus that the mode's own reads leave. -/
theorem operandReadIsOneTransaction : Obligations.OperandReadIsOneTransaction := by
  refine ⟨fun v s => ⟨rfl, rfl⟩, fun o s ho => ?_⟩
  obtain ⟨hvalue, hstate⟩ := load_of_memory s ho
  refine ⟨?_, fun hram => ?_, load_state o s, load_devices o s, load_onReset o s, fun addr _ => load_peek o s addr⟩
  · rw [hstate, hvalue, State.setBus_bus, Bus.afterRead_history]
  · rw [hvalue, Bus.value_of_ram (by rwa [locate_isDevice]), locate_peek]

end Sys2Proof.Machine
end

section
/-! PROOFS. What a step of the CPU costs (`40_fetch_execute.md` R78, R93, R145), and the step that an unmapped opcode ends
(R75, R165, R166). -/

namespace Sys2Proof.Machine

/-! Costs. -/

/-- The page-cross cycle of a read counts (R93). -/
theorem readInstr_cost (base : Nat) (o : Operand) (f : Byte → State → State) (s : State) :
    ∃ u, readInstr base o f s = done (base + if (locate o s).crossed then 1 else 0) u :=
  ⟨_, readInstr_eq base o f s⟩

/-- A taken branch costs one cycle more, and one more again if it leaves the page (R145). -/
theorem branchCycles_eq (taken : Bool) (target pc : Word) :
    branchCycles taken target pc = 2 + if taken then 1 + (if hi target ≠ hi pc then 1 else 0) else 0 := by
  simp only [branchCycles, bne_iff_ne]
  split_ifs <;> rfl

theorem branchInstr_cost {taken condition : Bool} (h : taken = condition) (off : Byte) (s : State) :
    ∃ u, branchInstr taken off s =
      done (2 + if condition then 1 + (if hi (locate (.relative off) s).addr ≠ hi s.pc then 1 else 0) else 0) u := by
  rw [branchInstr_eq, branchCycles_eq, h]
  exact ⟨_, rfl⟩

/-- Every instruction completes at the cost the opcode table gives it. Outside the forms with a penalty the meaning states
the table's count itself. -/
theorem exec_cost (i : Instr) (s : State) : ∃ u, exec i s = done (i.row.cycles + penaltyCycles i s) u := by
  cases i with
  | oraIndirectIndexedY _ | oraAbsoluteY _ | oraAbsoluteX _ | andIndirectIndexedY _ | andAbsoluteY _ | andAbsoluteX _
  | eorIndirectIndexedY _ | eorAbsoluteY _ | eorAbsoluteX _ | adcIndirectIndexedY _ | adcAbsoluteY _ | adcAbsoluteX _
  | sbcIndirectIndexedY _ | sbcAbsoluteY _ | sbcAbsoluteX _ | cmpIndirectIndexedY _ | cmpAbsoluteY _ | cmpAbsoluteX _
  | ldaIndirectIndexedY _ | ldaAbsoluteY _ | ldaAbsoluteX _ | ldxAbsoluteY _ | ldyAbsoluteX _ =>
    exact readInstr_cost _ _ _ s
  | bcc off | bne off | bpl off | bvc off => exact branchInstr_cost (beq_false _).symm off s
  | bcs off | beq off | bmi off | bvs off => exact branchInstr_cost (beq_true _).symm off s
  | _ => exact ⟨_, rfl⟩

/-- Settles O14: the cost the table gives is the one that the phase holds, which is 2 to 7. -/
theorem everyInstructionCostsItsTableCycles : Obligations.EveryInstructionCostsItsTableCycles := by
  intro i s
  obtain ⟨u, hexec⟩ := exec_cost i s
  obtain ⟨cycles, hlow, hhigh, hphase⟩ := exec_phase hexec
  obtain ⟨-, rfl⟩ : u.cpuTicks = s.cpuTicks ∧ i.row.cycles + penaltyCycles i s = cycles := Phase.waiting.inj hphase
  exact ⟨_, hexec, hphase, hlow, hhigh⟩

/-! An unmapped opcode. -/

theorem step_of_unmapped {s : State} (hready : s.phase = .ready) (hturn : s.cpuTurn)
    (hop : decodeOpcode (s.bus.value s.pc) = none) :
    step s = .next ((afterFetch 1 (s.setAgenda s.agenda.tail)).badOpcode (s.bus.value s.pc)) := by
  rw [step_of_cpuTurn hready hturn, instructionStep,
    fetchInstruction_of_unmapped (s := s.setAgenda s.agenda.tail) hop]
  rfl

/-- A halted CPU's turn is its error (R77, R165). -/
theorem step_of_halted {s : State} {op : Byte} (hhalted : s.phase = .halted op) (hturn : s.cpuTurn) :
    step s = .fault (.badOpcode op) := by
  rcases hturn with hagenda | ⟨rest, hagenda⟩
  · simp only [step, machineStep, hagenda, defaultStep, hhalted]
  · rw [step_of_agenda_cons hagenda]
    simp only [perform, cpuStep, State.setAgenda_phase, hhalted]

/-- Settles O9: the fetch of the opcode byte, the halt, and the error that follows. -/
theorem unmappedOpcodeHaltsTheCpu : Obligations.UnmappedOpcodeHaltsTheCpu := by
  intro s hready hturn hop op
  exact ⟨_, step_of_unmapped hready hturn (Option.isNone_iff_eq_none.mp hop), rfl, rfl, fun _ _ => rfl,
    step_of_halted rfl⟩

end Sys2Proof.Machine
end

section
/-! PROOFS. The CPU's barrier on its clock (`40_fetch_execute.md` R76, `60_exceptions.md` R178 to R183): its own step in each
of the four cases, and where the barrier of the default schedule ends on a running clock. -/

namespace Sys2Proof.Machine

/-- A target on a clock has come in ticks of the master exactly when the clock itself shows it (R180, R182). -/
theorem ClockRef.toMaster_le_iff {r : ClockRef} (h : r.valid = true) (target ticks : Nat) :
    r.toMaster target ≤ ticks ↔ target ≤ r.scale ticks := by
  cases r with
  | master => exact .rfl
  | divider d => exact (Nat.le_div_iff_mul_le (of_decide_eq_true h)).symm

/-! The CPU's own step in its barrier, case by case. -/

section
variable {start c : Nat} {s : State}

theorem barrierStep_of_released (h : s.clock.hasReleased .cpu = true) :
    barrierStep start c s = (s.setClock (s.clock.dropReleased .cpu)).executeReturns c :=
  if_pos h

theorem barrierStep_of_blocked (hreleased : s.clock.hasReleased .cpu = false)
    (hblocked : s.clock.hasWaiting .cpu = true) : barrierStep start c s = s := by
  simp [barrierStep, hreleased, hblocked]

theorem barrierStep_of_reached (hreleased : s.clock.hasReleased .cpu = false)
    (hblocked : s.clock.hasWaiting .cpu = false) (hreached : s.cpuClock.toMaster (start + c) ≤ s.clock.ticks) :
    barrierStep start c s = s.executeReturns c := by
  simp [barrierStep, hreleased, hblocked, hreached]

theorem barrierStep_of_ahead (hreleased : s.clock.hasReleased .cpu = false)
    (hblocked : s.clock.hasWaiting .cpu = false) (hahead : s.clock.ticks < s.cpuClock.toMaster (start + c)) :
    barrierStep start c s = s.setClock (s.clock.register .cpu s.cpuClock (start + c)) := by
  simp [barrierStep, hreleased, hblocked, Nat.not_le.mpr hahead]

/-! What the invariant says of the CPU's entry. -/

theorem Clock.exists_of_hasReleased {k : Clock} (h : k.hasReleased .cpu = true) :
    ∃ r ∈ k.released, r.waiter.caller = .cpu := by
  simpa [Clock.hasReleased] using h

theorem Clock.hasReleased_of_mem {k : Clock} {r : Release} (hmem : r ∈ k.released) (hcpu : r.waiter.caller = .cpu) :
    k.hasReleased .cpu = true :=
  List.any_eq_true.mpr ⟨r, hmem, beq_iff_eq.mpr hcpu⟩

variable (hs : s.Inv) (hwaiting : s.phase = .waiting start c)
include hs hwaiting

/-- In its barrier the CPU has at most one entry, for its own target. -/
theorem State.Inv.cpuEntry : s.clock.cpuEntries ≤ 1 ∧
    (∀ w ∈ s.clock.waiters, w.caller = .cpu → w = s.cpuWaiter start c) ∧
    ∀ r ∈ s.clock.released, r.waiter.caller = .cpu → r.waiter = s.cpuWaiter start c := by
  have hfits := hs.cpu
  rw [State.cpuFits, hwaiting] at hfits
  obtain ⟨hone, hw, hr, -⟩ := hfits
  exact ⟨hone, hw, hr⟩

theorem State.Inv.cpuWaiter_mem (hblocked : s.clock.hasWaiting .cpu = true) :
    s.cpuWaiter start c ∈ s.clock.waiters := by
  obtain ⟨-, hw, -⟩ := hs.cpuEntry hwaiting
  obtain ⟨w, hmem, hcpu⟩ := List.any_eq_true.mp hblocked
  rwa [← hw w hmem (beq_iff_eq.mp hcpu)]

/-- A registered CPU's target lies ahead (R179). -/
theorem State.Inv.ahead_of_blocked (hblocked : s.clock.hasWaiting .cpu = true) :
    s.clock.ticks < s.cpuClock.toMaster (start + c) :=
  hs.pending _ (hs.cpuWaiter_mem hwaiting hblocked)

theorem State.Inv.not_blocked_of_reached (hreached : s.cpuClock.toMaster (start + c) ≤ s.clock.ticks) :
    s.clock.hasWaiting .cpu = false := by
  rw [Bool.eq_false_iff]
  exact fun hblocked => absurd (hs.ahead_of_blocked hwaiting hblocked) (Nat.not_lt.mpr hreached)

/-- A released CPU's target has come, unless a stop drained it (R179, R183). -/
theorem State.Inv.reached_of_released (hreleased : s.clock.hasReleased .cpu = true)
    (hundrained : ∀ r ∈ s.clock.released, r.waiter.caller = .cpu → r.drainedAt = none) :
    s.cpuClock.toMaster (start + c) ≤ s.clock.ticks := by
  obtain ⟨-, -, hr⟩ := hs.cpuEntry hwaiting
  obtain ⟨r, hmem, hcpu⟩ := Clock.exists_of_hasReleased hreleased
  have htarget := hs.reached r hmem (hundrained r hmem hcpu)
  rwa [hr r hmem hcpu] at htarget

end

theorem step_of_waiting_cpu {s : State} {start c : Nat} {rest : List Move} (hwaiting : s.phase = .waiting start c)
    (hagenda : s.agenda = .cpu :: rest) : step s = .next (barrierStep start c (s.setAgenda rest)) := by
  rw [step_of_agenda_cons hagenda]
  simp only [perform, cpuStep, State.setAgenda_phase, hwaiting]

/-- Settles O26: past its target the CPU is released or not registered, ahead of it registered or about to be. -/
theorem barrierStepWaitsForItsTarget : Obligations.BarrierStepWaitsForItsTarget := by
  intro s start c rest hs hwaiting hagenda hundrained
  have hiff := ClockRef.toMaster_le_iff hs.divisor (start + c) s.clock.ticks
  have hstep := step_of_waiting_cpu hwaiting hagenda
  constructor
  · intro hpassed
    have hreached : s.cpuClock.toMaster (start + c) ≤ s.clock.ticks := hiff.mpr hpassed
    cases hreleased : s.clock.hasReleased .cpu with
    | true =>
      obtain ⟨hone, -, -⟩ := hs.cpuEntry hwaiting
      rw [barrierStep_of_released (s := s.setAgenda rest) hreleased] at hstep
      exact ⟨_, hstep, rfl, Clock.othersKept_dropReleased s.clock .cpu, Clock.cpuEntries_dropReleased hone hreleased⟩
    | false =>
      have hblocked := hs.not_blocked_of_reached hwaiting hreached
      rw [barrierStep_of_reached (s := s.setAgenda rest) hreleased hblocked hreached] at hstep
      exact ⟨_, hstep, rfl, .refl .cpu s.clock, Clock.cpuEntries_eq_zero_of_absent hreleased hblocked⟩
  · intro hshort
    have hahead : s.clock.ticks < s.cpuClock.toMaster (start + c) :=
      Nat.lt_of_not_le fun h => absurd (hiff.mp h) (Nat.not_le.mpr hshort)
    have hreleased : s.clock.hasReleased .cpu = false := by
      rw [Bool.eq_false_iff]
      exact fun h => absurd (hs.reached_of_released hwaiting h hundrained) (Nat.not_le.mpr hahead)
    cases hblocked : s.clock.hasWaiting .cpu with
    | true =>
      rw [barrierStep_of_blocked (s := s.setAgenda rest) hreleased hblocked] at hstep
      exact ⟨_, hstep, rfl, (List.append_nil _).symm⟩
    | false =>
      rw [barrierStep_of_ahead (s := s.setAgenda rest) hreleased hblocked hahead] at hstep
      exact ⟨_, hstep, rfl, rfl⟩

/-! The clock at the end of a barrier. -/

/-- From `k` to `k'` the clock has advanced, in its count and its entries alone; of the waiters that are not the CPU's those
the count has reached are released, and the others stay. -/
structure Clock.AdvancedTo (k k' : Clock) : Prop where
  frame : k' = { k with ticks := k'.ticks, waiters := k'.waiters, released := k'.released }
  waiters : ∀ w, w.caller ≠ .cpu → (w ∈ k'.waiters ↔ w ∈ k.waiters ∧ k'.ticks < w.target)
  released : ∀ r, r.waiter.caller ≠ .cpu → (r ∈ k'.released ↔ r ∈ k.released ∨
    (r.drainedAt = none ∧ r.waiter ∈ k.waiters ∧ r.waiter.target ≤ k'.ticks))

theorem Clock.Timely.advancedTo_tickTimes {k : Clock} (h : k.Timely) (hrunning : k.running = true) (n : Nat) :
    k.AdvancedTo (k.tickTimes n) where
  frame := k.tickTimes_frame n
  waiters w _ := by
    rw [Clock.tickTimes_ticks n hrunning]
    exact Clock.mem_tickTimes_waiters n hrunning h.1 w
  released r _ := by
    rw [Clock.tickTimes_ticks n hrunning]
    exact Clock.mem_tickTimes_released n hrunning h.1 r

theorem Clock.AdvancedTo.dropReleased_cpu {k k' : Clock} (h : k.AdvancedTo k') : k.AdvancedTo (k'.dropReleased .cpu) where
  frame := by
    conv_lhs => rw [Clock.dropReleased, h.frame]
    rfl
  waiters := h.waiters
  released r hcpu := (Clock.mem_dropReleased hcpu).trans (h.released r hcpu)

/-- The CPU's own registration is no other caller's. -/
theorem Clock.AdvancedTo.of_register_cpu {k k' : Clock} {r : ClockRef} {target : Nat}
    (h : (k.register .cpu r target).AdvancedTo k') : k.AdvancedTo k' := by
  have hmem : ∀ w : Waiter, w.caller ≠ .cpu → (w ∈ (k.register .cpu r target).waiters ↔ w ∈ k.waiters) := by
    intro w hw
    simp only [Clock.register, List.mem_append, List.mem_singleton, or_iff_left_iff_imp]
    rintro rfl
    exact absurd rfl hw
  refine ⟨h.frame, fun w hw => ?_, fun q hq => ?_⟩
  · rw [h.waiters w hw, hmem w hw]
  · rw [h.released q hq, hmem q.waiter hq]
    rfl

theorem Clock.Timely.advancedTo_self {k : Clock} (h : k.Timely) (hrunning : k.running = true) : k.AdvancedTo k :=
  h.advancedTo_tickTimes hrunning 0

/-- The producer's steps bring a running clock to any count ahead. -/
theorem advanceClock_ticks {s : State} {target : Nat} (hrunning : s.clock.running = true)
    (hahead : s.clock.ticks ≤ target) : (advanceClock target s).clock.ticks = target := by
  rw [advanceClock, State.setClock_clock, Clock.tickTimes_ticks _ hrunning, Nat.add_sub_cancel' hahead]

/-- Once the producer's steps have brought a registered CPU to its target, it resumes. -/
theorem barrierStep_advanceClock {s : State} {start c : Nat} (htimely : s.clock.Timely)
    (hrunning : s.clock.running = true) (hmem : s.cpuWaiter start c ∈ s.clock.waiters) :
    let u := advanceClock (s.cpuClock.toMaster (start + c)) s
    barrierStep start c u = (s.setClock (u.clock.dropReleased .cpu)).executeReturns c := by
  intro u
  have hreached : (s.cpuWaiter start c).reached ∈ u.clock.released :=
    (Clock.mem_tickTimes_released _ hrunning htimely.1 _).mpr (.inr ⟨rfl, hmem, le_add_tsub⟩)
  exact barrierStep_of_released (Clock.hasReleased_of_mem hreached rfl)

section
variable {start c : Nat} {s : State}

/-- The barrier ends at once if the CPU's own step ends it. -/
theorem barrier_of_ready {t : State} (h : barrierStep start c s = t) (hready : t.phase = .ready) :
    barrier start c s = t := by
  rw [barrier, h, if_pos hready]

/-- The barrier goes on if the CPU's own step leaves it waiting. -/
theorem barrier_of_waiting {t : State} (h : barrierStep start c s = t) (hwaiting : t.phase = .waiting start c) :
    barrier start c s = barrierStep start c (advanceClock (s.cpuClock.toMaster (start + c)) t) := by
  rw [barrier, h, if_neg (by rw [hwaiting]; nofun)]

variable (hs : s.Inv) (hrunning : s.clock.running = true)
include hs hrunning

/-- Where the barrier of a CPU that has been released ends: it resumes at once. -/
theorem barrier_of_released (hreleased : s.clock.hasReleased .cpu = true) :
    ∃ k, barrier start c s = (s.setClock k).executeReturns c ∧ s.clock.AdvancedTo k ∧ k.ticks = s.clock.ticks :=
  ⟨_, barrier_of_ready (barrierStep_of_released hreleased) rfl,
    (hs.clockTimely.advancedTo_self hrunning).dropReleased_cpu, rfl⟩

/-- Where the barrier of a CPU that has not been released ends. -/
theorem barrier_of_unreleased (hwaiting : s.phase = .waiting start c) (hreleased : s.clock.hasReleased .cpu = false) :
    ∃ k, barrier start c s = (s.setClock k).executeReturns c ∧ s.clock.AdvancedTo k ∧
      k.ticks = max s.clock.ticks (s.cpuClock.toMaster (start + c)) := by
  by_cases hreached : s.cpuClock.toMaster (start + c) ≤ s.clock.ticks
  · have hblocked : s.clock.hasWaiting .cpu = false := hs.not_blocked_of_reached hwaiting hreached
    have hentered := barrierStep_of_reached hreleased hblocked hreached
    exact ⟨s.clock, barrier_of_ready hentered rfl, hs.clockTimely.advancedTo_self hrunning, (max_eq_left hreached).symm⟩
  have hahead := Nat.lt_of_not_le hreached
  rw [max_eq_right hahead.le]
  cases hblocked : s.clock.hasWaiting .cpu with
  | true =>
    have hentered := barrierStep_of_blocked (start := start) (c := c) hreleased hblocked
    rw [barrier_of_waiting hentered hwaiting,
      barrierStep_advanceClock hs.clockTimely hrunning (hs.cpuWaiter_mem hwaiting hblocked)]
    exact ⟨_, rfl, (hs.clockTimely.advancedTo_tickTimes hrunning _).dropReleased_cpu,
      advanceClock_ticks hrunning hahead.le⟩
  | false =>
    have hentered := barrierStep_of_ahead hreleased hblocked hahead
    have htimely := hs.clockTimely.register (who := .cpu) hahead
    rw [barrier_of_waiting hentered hwaiting]
    exact ⟨_, barrierStep_advanceClock (s := s.setClock _) htimely hrunning (List.mem_append_right _ (.head _)),
      (htimely.advancedTo_tickTimes hrunning _).dropReleased_cpu.of_register_cpu,
      advanceClock_ticks (s := s.setClock _) hrunning hahead.le⟩

end

theorem step_of_waiting_default {s : State} {start c : Nat} (hwaiting : s.phase = .waiting start c)
    (hagenda : s.agenda = []) : step s = .next (barrier start c s) := by
  simp only [step, machineStep, hagenda, defaultStep, hwaiting]

/-- Settles O24: where the barrier ends, whether the CPU has been released before it or not. -/
theorem barrierEndsAtItsTarget : Obligations.BarrierEndsAtItsTarget := by
  intro s start c hs hagenda hwaiting hrunning
  have hiff := ClockRef.toMaster_le_iff hs.divisor (start + c)
  have hstep := step_of_waiting_default hwaiting hagenda
  cases hreleased : s.clock.hasReleased .cpu with
  | true =>
    obtain ⟨k, hend, ⟨hframe, hw, hr⟩, hticks⟩ := barrier_of_released (start := start) (c := c) hs hrunning hreleased
    rw [hend] at hstep
    refine ⟨_, hstep, ?_, hw, hr, nofun, fun _ => hticks, fun hundrained => ?_⟩
    · exact congrArg (fun k => (s.setClock k).executeReturns c) hframe
    · exact (hiff k.ticks).mp (hticks ▸ hs.reached_of_released hwaiting hreleased hundrained)
  | false =>
    obtain ⟨k, hend, ⟨hframe, hw, hr⟩, hticks⟩ := barrier_of_unreleased hs hrunning hwaiting hreleased
    rw [hend] at hstep
    refine ⟨_, hstep, ?_, hw, hr, fun _ => hticks, nofun, fun _ => ?_⟩
    · exact congrArg (fun k => (s.setClock k).executeReturns c) hframe
    · exact (hiff k.ticks).mp (hticks ▸ le_max_right _ _)

end Sys2Proof.Machine
end

section
/-! PROOFS. Loads and stores (`41_load_store.md` R105 to R110), as instances of the read and the write shape of
`40_fetch_execute.md` R79. -/

namespace Sys2Proof.Machine

/-- What each mnemonic of the read shape does with its operand (R79). -/
def readOperation : Mnemonic → Option (Byte → State → State)
  | .lda => some loadA
  | .ldx => some loadX
  | .ldy => some loadY
  | .and => some andA
  | .eor => some eorA
  | .ora => some oraA
  | .bit => some bitA
  | .adc => some adcA
  | .sbc => some sbcA
  | .cmp => some cmpA
  | .cpx => some cmpX
  | .cpy => some cmpY
  | _ => none

section
variable {i : Instr} {o : Operand}

/-- Every form of a mnemonic of the read shape applies that mnemonic's operation, at the table's base cost. -/
theorem exec_eq_readInstr {f : Byte → State → State} (hf : readOperation i.row.mnemonic = some f)
    (ho : operandOf i = some o) (s : State) : exec i s = readInstr i.row.cycles o f s := by
  cases i with
  | ldaIndexedIndirectX _ | ldaZeropage _ | ldaImmediate _ | ldaAbsolute _ | ldaIndirectIndexedY _ | ldaZeropageX _
  | ldaAbsoluteY _ | ldaAbsoluteX _
  | ldxImmediate _ | ldxZeropage _ | ldxAbsolute _ | ldxZeropageY _ | ldxAbsoluteY _
  | ldyImmediate _ | ldyZeropage _ | ldyAbsolute _ | ldyZeropageX _ | ldyAbsoluteX _
  | andIndexedIndirectX _ | andZeropage _ | andImmediate _ | andAbsolute _ | andIndirectIndexedY _ | andZeropageX _
  | andAbsoluteY _ | andAbsoluteX _
  | eorIndexedIndirectX _ | eorZeropage _ | eorImmediate _ | eorAbsolute _ | eorIndirectIndexedY _ | eorZeropageX _
  | eorAbsoluteY _ | eorAbsoluteX _
  | oraIndexedIndirectX _ | oraZeropage _ | oraImmediate _ | oraAbsolute _ | oraIndirectIndexedY _ | oraZeropageX _
  | oraAbsoluteY _ | oraAbsoluteX _
  | bitZeropage _ | bitAbsolute _
  | adcIndexedIndirectX _ | adcZeropage _ | adcImmediate _ | adcAbsolute _ | adcIndirectIndexedY _ | adcZeropageX _
  | adcAbsoluteY _ | adcAbsoluteX _
  | sbcIndexedIndirectX _ | sbcZeropage _ | sbcImmediate _ | sbcAbsolute _ | sbcIndirectIndexedY _ | sbcZeropageX _
  | sbcAbsoluteY _ | sbcAbsoluteX _
  | cmpIndexedIndirectX _ | cmpZeropage _ | cmpImmediate _ | cmpAbsolute _ | cmpIndirectIndexedY _ | cmpZeropageX _
  | cmpAbsoluteY _ | cmpAbsoluteX _
  | cpxImmediate _ | cpxZeropage _ | cpxAbsolute _ | cpyImmediate _ | cpyZeropage _ | cpyAbsolute _ =>
    obtain rfl := Option.some.inj hf
    obtain rfl := Option.some.inj ho
    rfl
  | _ => nomatch hf

/-- The next state of an instruction of the read shape: the operation runs on the operand, where only the bus has changed. -/
theorem exec_of_readOperation {f : Byte → State → State} (hf : readOperation i.row.mnemonic = some f)
    (ho : operandOf i = some o) (s : State) :
    exec i s = .next ((f (load o s).value (s.setBus (load o s).state.bus)).finish
      (i.row.cycles + pageCycle (locate o s).crossed)) := by
  rw [exec_eq_readInstr hf ho, readInstr_eq, ← load_state]

/-- Every form of a store writes that mnemonic's register, at the table's cost. -/
theorem exec_eq_writeInstr {v : Byte} {s : State} (hm : i.row.mnemonic ∈ [Mnemonic.sta, .stx, .sty])
    (ho : operandOf i = some o) (hv : comparedOrStored i.row.mnemonic s = some v) :
    exec i s = writeInstr i.row.cycles o v s := by
  cases i with
  | staIndexedIndirectX _ | staZeropage _ | staAbsolute _ | staIndirectIndexedY _ | staZeropageX _ | staAbsoluteY _
  | staAbsoluteX _ | stxZeropage _ | stxAbsolute _ | stxZeropageY _ | styZeropage _ | styAbsolute _
  | styZeropageX _ =>
    obtain rfl := Option.some.inj hv
    obtain rfl := Option.some.inj ho
    rfl
  | _ => exact absurd hm (by simp [Instr.row])

end

/-- Settles O41: each load is the read shape with its register written, Z and N coming from the operand by `setZN`. -/
theorem loadsFillTheirRegister : Obligations.LoadsFillTheirRegister := by
  intro i o s ho
  obtain ⟨hz, hn, hflags⟩ := setZNSetsZeroAndNegative (load o s).value s.p
  have hexec {f} (hf : readOperation i.row.mnemonic = some f) := exec_of_readOperation hf ho s
  have hmem (addr) (_ : addr ∉ []) := load_peek o s addr
  refine ⟨fun hm => ?_, fun hm => ?_, fun hm => ?_⟩
  · exact ⟨_, hexec (f := loadA) (by rw [hm]; rfl), rfl, hz, hn, hflags, hmem⟩
  · exact ⟨_, hexec (f := loadX) (by rw [hm]; rfl), rfl, hz, hn, hflags, hmem⟩
  · exact ⟨_, hexec (f := loadY) (by rw [hm]; rfl), rfl, hz, hn, hflags, hmem⟩

/-- Settles O42: the one store is at the effective address, on the bus that the mode's own reads leave. -/
theorem storesWriteTheirRegister : Obligations.StoresWriteTheirRegister := by
  intro i o s v hm ho hv ea
  have hexec := exec_eq_writeInstr hm ho hv
  rw [writeInstr_eq] at hexec
  refine ⟨_, hexec, rfl, fun hram => ?_, fun addr haddr => ?_⟩
  · exact Bus.peek_afterWrite_same v hram
  · calc (ea.state.bus.afterWrite ea.addr v).peek addr
      _ = ea.state.bus.peek addr := Bus.peek_afterWrite_other _ v (List.ne_of_not_mem_cons haddr)
      _ = s.bus.peek addr := locate_peek o s addr

end Sys2Proof.Machine
end

section
/-! PROOFS. Transfers and stack instructions (`42_transfer_stack.md` R111 to R120): a byte moved between registers, or
between a register and the stack page, with Z and N from it where the rule names `setZN`. -/

namespace Sys2Proof.Machine

/-- An instruction that has its result `v` in the state `u` and ends by setting Z and N from it (R95) changes only P and the
phase of `u`. -/
theorem exists_next_of_setZN {r : Result} {cycles : Nat} {v : Byte} {u : State}
    (hr : r = done cycles (u.setP (setZN v u.p))) : ∃ t, r = .next t ∧
      t = { u with p := t.p, phase := .waiting u.cpuTicks cycles } ∧
      getFlag .z t.p = (v == 0#8) ∧ getFlag .n t.p = v.getLsbD 7 ∧ FlagsKept [.z, .n] u.p t.p ∧ MemoryKept [] u t := by
  obtain ⟨hz, hn, hflags⟩ := setZNSetsZeroAndNegative v u.p
  exact ⟨_, hr, rfl, hz, hn, hflags, fun _ _ => rfl⟩

/-- Settles O43: each of the five sets Z and N after its one register; TXS writes SP alone. -/
theorem transfersCopyTheirSource : Obligations.TransfersCopyTheirSource := by
  intro s
  constructor
  · simp only [List.forall_mem_cons]
    refine ⟨?tax, ?tay, ?txa, ?tya, ?tsx, List.forall_mem_nil _⟩
    case tax => exact exists_next_of_setZN (u := s.setX s.a) rfl
    case tay => exact exists_next_of_setZN (u := s.setY s.a) rfl
    case txa => exact exists_next_of_setZN (u := s.setA s.x) rfl
    case tya => exact exists_next_of_setZN (u := s.setA s.y) rfl
    case tsx => exact exists_next_of_setZN (u := s.setX s.sp) rfl
  · exact ⟨_, done_eq 2 (s.setSP s.x), rfl, fun _ _ => rfl⟩

theorem push_holds (v : Byte) (s : State) : Holds (push v s) (stackAddr s.sp) v :=
  fun hram => Bus.peek_afterWrite_same v hram

theorem push_memoryKept (v : Byte) (s : State) : MemoryKept [stackAddr s.sp] s (push v s) :=
  fun _ haddr => Bus.peek_afterWrite_other s.bus v (List.ne_of_not_mem_cons haddr)

theorem pull_memoryKept (s : State) : MemoryKept [] s (pull s).2 :=
  fun addr _ => Bus.afterRead_peek s.bus (stackAddr (s.sp + 1#8)) addr

theorem flagsKept_pushedStatus (p : Byte) : FlagsKept [.b] p (pushedStatus p) :=
  fun f hf => by rw [getFlag_pushedStatus, if_neg (List.ne_of_not_mem_cons hf)]

/-- Settles O44: PHA and PHP are one push, PLA and PLP one pull; PLA then sets Z and N. -/
theorem stackInstructionsPushAndPull : Obligations.StackInstructionsPushAndPull := by
  intro s
  refine ⟨?pha, ?php, ?pla, ?plp⟩
  case pha => exact ⟨_, done_eq 3 (push s.a s), rfl, push_holds s.a s, push_memoryKept s.a s⟩
  case php =>
    have hb : getFlag .b (pushedStatus s.p) = true := getFlag_pushedStatus .b s.p
    exact ⟨_, pushedStatus s.p, done_eq 3 (push (pushedStatus s.p) s), rfl, hb, flagsKept_pushedStatus s.p,
      push_holds _ s, push_memoryKept _ s⟩
  case pla => exact exists_next_of_setZN (u := (pull s).2.setA (pull s).1) rfl
  case plp => exact ⟨_, done_eq 4 ((pull s).2.setP (pull s).1), rfl, pull_memoryKept s⟩

end Sys2Proof.Machine
end

section
/-! PROOFS. Logic, arithmetic and comparison (`43_logic_arith.md` R121 to R129), as instances of the read shape of
`40_fetch_execute.md` R79: what each operation writes to P (R95, R103, R124, R127), and the instructions. -/

namespace Sys2Proof.Machine

/-! The flags of P after each operation. -/

/-- A carry and then Z and N from a result, as a comparison and a shift write them (R100, R127). -/
theorem setZN_setCarry_flags (r : Byte) (c : Bool) (p : Byte) :
    let q := setZN r (setFlag .c c p)
    getFlag .c q = c ∧ getFlag .z q = (r == 0#8) ∧ getFlag .n q = r.getLsbD 7 ∧ FlagsKept [.c, .z, .n] p q := by
  have hq (f) := getFlag_setZN f r (setFlag .c c p)
  refine ⟨(hq .c).trans (getFlag_setFlag .c .c c p), hq .z, hq .n, fun f hf => ?_⟩
  obtain ⟨hc, hz, hn⟩ : f ≠ .c ∧ f ≠ .z ∧ f ≠ .n := by simpa using hf
  rw [hq, if_neg hn, if_neg hz, getFlag_setFlag, if_neg hc]

theorem arithStatus_flags (r : Byte) (c v : Bool) (p : Byte) :
    let q := arithStatus r c v p
    getFlag .c q = c ∧ getFlag .v q = v ∧ getFlag .z q = (r == 0#8) ∧ getFlag .n q = r.getLsbD 7 ∧
      FlagsKept [.c, .v, .z, .n] p q := by
  have hq (f) := getFlag_setZN f r (setFlag .v v (setFlag .c c p))
  have hcarry : getFlag .c (setFlag .v v (setFlag .c c p)) = c := by
    rw [getFlag_setFlag, if_neg nofun, getFlag_setFlag, if_pos rfl]
  refine ⟨(hq .c).trans hcarry, (hq .v).trans (getFlag_setFlag .v .v v _), hq .z, hq .n, fun f hf => ?_⟩
  obtain ⟨hc, hv, hz, hn⟩ : f ≠ .c ∧ f ≠ .v ∧ f ≠ .z ∧ f ≠ .n := by simpa using hf
  rw [arithStatus, hq, if_neg hn, if_neg hz, getFlag_setFlag, if_neg hv, getFlag_setFlag, if_neg hc]

theorem getFlag_bitStatus (f : Flag) (a m p : Byte) :
    getFlag f (bitStatus a m p) =
      if f = .v then m.getLsbD 6 else if f = .n then m.getLsbD 7 else if f = .z then (a &&& m) == 0#8
      else getFlag f p := by
  rw [bitStatus, getFlag_setFlag, getFlag_setFlag, getFlag_setFlag]

theorem flagsKept_bitStatus (a m p : Byte) : FlagsKept [.z, .n, .v] p (bitStatus a m p) := by
  intro f hf
  obtain ⟨hz, hn, hv⟩ : f ≠ .z ∧ f ≠ .n ∧ f ≠ .v := by simpa using hf
  rw [getFlag_bitStatus, if_neg hv, if_neg hn, if_neg hz]

/-- A comparison orders the register and the operand as unsigned numbers (R127). -/
theorem compareStatus_flags (reg m p : Byte) :
    let q := compareStatus reg m p
    (getFlag .c q = true ↔ m.toNat ≤ reg.toNat) ∧ (getFlag .z q = true ↔ reg = m) ∧
      getFlag .n q = (reg - m).getLsbD 7 ∧ FlagsKept [.c, .z, .n] p q := by
  obtain ⟨hc, hz, hn, hflags⟩ := setZN_setCarry_flags (reg - m) (decide (m ≤ reg)) p
  refine ⟨?_, ?_, hn, hflags⟩
  · rw [compareStatus, hc, decide_eq_true_iff, BitVec.le_def]
  · rw [compareStatus, hz, beq_iff_eq]
    exact sub_eq_zero

/-! The instructions. -/

/-- A state whose bus is the one that an operand read leaves has the memory that the read found. -/
theorem memoryKept_of_load {o : Operand} {s t : State} (hbus : t.bus = (load o s).state.bus) : MemoryKept [] s t :=
  fun addr _ => by rw [hbus, load_peek]

/-- Settles O45: each of the three is the read shape with its result in A, Z and N coming from it by `setZN`. -/
theorem logicInstructionsCombineWithA : Obligations.LogicInstructionsCombineWithA := by
  intro i o s r ho m hr
  obtain ⟨hz, hn, hflags⟩ := setZNSetsZeroAndNegative r s.p
  have hexec {f} (hf : readOperation i.row.mnemonic = some f) := exec_of_readOperation hf ho s
  obtain ⟨hm, rfl⟩ | ⟨hm, rfl⟩ | ⟨hm, rfl⟩ := hr
  · exact ⟨_, hexec (f := andA) (by rw [hm]; rfl), rfl, hz, hn, hflags, memoryKept_of_load rfl⟩
  · exact ⟨_, hexec (f := eorA) (by rw [hm]; rfl), rfl, hz, hn, hflags, memoryKept_of_load rfl⟩
  · exact ⟨_, hexec (f := oraA) (by rw [hm]; rfl), rfl, hz, hn, hflags, memoryKept_of_load rfl⟩

/-- BIT has no indexed form, so its address never crosses a page. -/
theorem locate_crossed_of_bit {i : Instr} {o : Operand} (hm : i.row.mnemonic = .bit) (ho : operandOf i = some o)
    (s : State) : (locate o s).crossed = false := by
  cases i with
  | bitZeropage _ | bitAbsolute _ =>
    obtain rfl := Option.some.inj ho
    rfl
  | _ => nomatch hm

/-- Settles O46: BIT is the read shape with P alone written, and pays no page-cross cycle. -/
theorem bitTestsMemoryAgainstA : Obligations.BitTestsMemoryAgainstA := by
  intro i o s hm ho m
  have hexec := exec_of_readOperation (f := bitA) (by rw [hm]; rfl) ho s
  rw [locate_crossed_of_bit hm ho s] at hexec
  have hflag (f) := getFlag_bitStatus f s.a m.value s.p
  exact ⟨_, hexec, rfl, hflag .z, hflag .n, hflag .v, flagsKept_bitStatus s.a m.value s.p, memoryKept_of_load rfl⟩

/-- Settles O47: ADC is the read shape with `adcSum` in A and its flags in P. -/
theorem adcAddsWithCarry : Obligations.AdcAddsWithCarry := by
  intro i o s hm ho m r
  have hexec := exec_of_readOperation (f := adcA) (by rw [hm]; rfl) ho s
  obtain ⟨hc, hv, hz, hn, hflags⟩ := arithStatus_flags r.1 r.2 (vAdd s.a m.value r.1) s.p
  exact ⟨_, hexec, rfl, hc, hv, hz, hn, hflags, memoryKept_of_load rfl⟩

/-- Settles O48: SBC is the read shape with `sbcDifference` in A and its flags in P. -/
theorem sbcSubtractsWithBorrow : Obligations.SbcSubtractsWithBorrow := by
  intro i o s hm ho m r
  have hexec := exec_of_readOperation (f := sbcA) (by rw [hm]; rfl) ho s
  obtain ⟨hc, hv, hz, hn, hflags⟩ := arithStatus_flags r.1 r.2 (vSub s.a m.value r.1) s.p
  exact ⟨_, hexec, rfl, hc, hv, hz, hn, hflags, memoryKept_of_load rfl⟩

/-- A comparison of the read shape compares the register that its mnemonic names (R127 to R129). -/
theorem readOperation_of_comparison {m : Mnemonic} {s : State} {v : Byte} (hm : m ∈ [Mnemonic.cmp, .cpx, .cpy])
    (hv : comparedOrStored m s = some v) : ∃ f, readOperation m = some f ∧
      ∀ (b : Byte) (bus : Bus), f b (s.setBus bus) = (s.setBus bus).setP (compareStatus v b s.p) := by
  simp only [List.mem_cons, List.not_mem_nil, or_false] at hm
  obtain rfl | rfl | rfl := hm <;> obtain rfl := Option.some.inj hv
  · exact ⟨cmpA, rfl, fun _ _ => rfl⟩
  · exact ⟨cmpX, rfl, fun _ _ => rfl⟩
  · exact ⟨cmpY, rfl, fun _ _ => rfl⟩

/-- Settles O49: each of the three is the read shape with `compareStatus` of its register in P, all else kept. -/
theorem comparisonsSetOnlyFlags : Obligations.ComparisonsSetOnlyFlags := by
  intro i o s v hm ho hv m
  obtain ⟨f, hf, hcompare⟩ := readOperation_of_comparison hm hv
  have hexec := exec_of_readOperation hf ho s
  rw [hcompare] at hexec
  obtain ⟨hc, hz, hn, hflags⟩ := compareStatus_flags v m.value s.p
  exact ⟨_, hexec, rfl, hc, hz, hn, hflags, memoryKept_of_load rfl⟩

end Sys2Proof.Machine
end

section
/-! PROOFS. Increment, decrement, shifts and rotates (`44_incdec_shift.md` R132 to R141), as instances of the
read-modify-write and the accumulator shape of `40_fetch_execute.md` R79. -/

namespace Sys2Proof.Machine

/-! The bytes that the operations write, as numbers. -/

theorem eq_add_one_of_toNat {r v : Byte} (h : r.toNat = (v.toNat + 1) % 256) : r = v + 1#8 :=
  BitVec.eq_of_toNat_eq (h.trans (byte_add_one_toNat v).symm)

theorem eq_sub_one_of_toNat {r v : Byte} (h : r.toNat = (v.toNat + 255) % 256) : r = v - 1#8 := by
  refine BitVec.eq_of_toNat_eq (h.trans ?_)
  rw [BitVec.toNat_sub, Nat.add_comm]
  rfl

theorem shiftLeft_one_toNat (v : Byte) : (v <<< 1).toNat = 2 * v.toNat % 256 := by
  rw [BitVec.toNat_shiftLeft, Nat.shiftLeft_eq, Nat.mul_comm]

theorem shiftRight_one_toNat (v : Byte) : (v >>> 1).toNat = v.toNat / 2 := by
  rw [BitVec.toNat_ushiftRight, Nat.shiftRight_eq_div_pow]

/-- ASL doubles (R138). -/
theorem shiftLeft_one_eq (v : Byte) : v <<< 1 = BitVec.ofNat 8 (2 * v.toNat) :=
  BitVec.eq_of_toNat_eq (shiftLeft_one_toNat v)

/-- LSR halves (R139). -/
theorem shiftRight_one_eq (v : Byte) : v >>> 1 = BitVec.ofNat 8 (v.toNat / 2) := by
  rw [← shiftRight_one_toNat, BitVec.ofNat_toNat, BitVec.setWidth_eq]

/-- ROL doubles and adds the old carry: doubling leaves bit 0 clear for it (R140). -/
theorem rolByte_eq (v : Byte) (cin : Bool) : rolByte v cin = BitVec.ofNat 8 (2 * v.toNat + cin.toNat) := by
  cases cin
  case false => exact BitVec.or_zero.trans (shiftLeft_one_eq v)
  case true =>
    apply BitVec.eq_of_toNat_eq
    calc (v <<< 1 ||| 0x01#8).toNat
      _ = 2 ^ 1 * (v.toNat % 128) ||| 1 := by
        rw [BitVec.toNat_or, shiftLeft_one_toNat, ← Nat.mul_mod_mul_left]
        rfl
      _ = 2 ^ 1 * (v.toNat % 128) + 1 := (Nat.two_pow_add_eq_or_of_lt (by decide) _).symm
      _ = (2 * v.toNat + 1) % 256 := by omega

/-- ROR halves and adds 128 for the old carry: halving leaves bit 7 clear for it (R141). -/
theorem rorByte_eq (v : Byte) (cin : Bool) : rorByte v cin = BitVec.ofNat 8 (v.toNat / 2 + 128 * cin.toNat) := by
  cases cin
  case false => exact BitVec.or_zero.trans (shiftRight_one_eq v)
  case true =>
    have hv : v.toNat / 2 < 2 ^ 7 := by
      have := v.isLt
      omega
    apply BitVec.eq_of_toNat_eq
    calc (v >>> 1 ||| 0x80#8).toNat
      _ = 2 ^ 7 * 1 ||| v.toNat / 2 := by
        rw [BitVec.toNat_or, shiftRight_one_toNat, Nat.or_comm]
        rfl
      _ = 2 ^ 7 * 1 + v.toNat / 2 := (Nat.two_pow_add_eq_or_of_lt hv 1).symm
      _ = (v.toNat / 2 + 128) % 256 := by omega

/-! The two shapes. -/

/-- What each mnemonic of the read-modify-write and of the accumulator shape does with its operand (R79). -/
def modifyOperation : Mnemonic → Option (Byte → Byte → Byte × Byte)
  | .inc => some incResult
  | .dec => some decResult
  | .asl => some aslResult
  | .lsr => some lsrResult
  | .rol => some rolResult
  | .ror => some rorResult
  | _ => none

/-- A mnemonic that has a result by `shiftSpec` writes that result, and P from it and the bit shifted out. -/
theorem modifyOperation_of_shiftSpec {m : Mnemonic} {v p r : Byte} {c : Bool}
    (h : shiftSpec m v (getFlag .c p) = some (r, c)) :
    ∃ f, modifyOperation m = some f ∧ f v p = (r, shiftStatus r c p) := by
  cases m with
  | asl =>
    obtain ⟨rfl, rfl⟩ := Prod.mk.inj (Option.some.inj h)
    exact ⟨aslResult, rfl, by rw [aslResult, shiftLeft_one_eq]⟩
  | lsr =>
    obtain ⟨rfl, rfl⟩ := Prod.mk.inj (Option.some.inj h)
    exact ⟨lsrResult, rfl, by rw [lsrResult, shiftRight_one_eq]⟩
  | rol =>
    obtain ⟨rfl, rfl⟩ := Prod.mk.inj (Option.some.inj h)
    exact ⟨rolResult, rfl, by rw [rolResult, rolByte_eq]⟩
  | ror =>
    obtain ⟨rfl, rfl⟩ := Prod.mk.inj (Option.some.inj h)
    exact ⟨rorResult, rfl, by rw [rorResult, rorByte_eq]⟩
  | _ => nomatch h

section
variable {i : Instr} {f : Byte → Byte → Byte × Byte}

/-- Every memory form of such a mnemonic applies that mnemonic's operation, at the table's cost. -/
theorem exec_eq_modifyInstr {o : Operand} (hf : modifyOperation i.row.mnemonic = some f) (ho : operandOf i = some o)
    (s : State) : exec i s = modifyInstr i.row.cycles o f s := by
  cases i with
  | aslAccumulator | lsrAccumulator | rolAccumulator | rorAccumulator => nomatch ho
  | incZeropage _ | incAbsolute _ | incZeropageX _ | incAbsoluteX _
  | decZeropage _ | decAbsolute _ | decZeropageX _ | decAbsoluteX _
  | aslZeropage _ | aslAbsolute _ | aslZeropageX _ | aslAbsoluteX _
  | lsrZeropage _ | lsrAbsolute _ | lsrZeropageX _ | lsrAbsoluteX _
  | rolZeropage _ | rolAbsolute _ | rolZeropageX _ | rolAbsoluteX _
  | rorZeropage _ | rorAbsolute _ | rorZeropageX _ | rorAbsoluteX _ =>
    obtain rfl := Option.some.inj hf
    obtain rfl := Option.some.inj ho
    rfl
  | _ => nomatch hf

/-- Every accumulator form applies its mnemonic's operation. -/
theorem exec_eq_accumulatorInstr (hmode : i.row.mode = .accumulator) (hf : modifyOperation i.row.mnemonic = some f)
    (s : State) : exec i s = accumulatorInstr f s := by
  cases i with
  | aslAccumulator | lsrAccumulator | rolAccumulator | rorAccumulator =>
    obtain rfl := Option.some.inj hf
    rfl
  | _ => nomatch hmode

/-- A memory form whose operation answers the byte `r` and the status `q` stores `r` where it read its operand, and
nothing else in memory changes. -/
theorem exists_next_of_modifyOperation {o : Operand} {s : State} {r q : Byte}
    (hf : modifyOperation i.row.mnemonic = some f) (ho : operandOf i = some o)
    (hr : f ((locate o s).state.bus.value (locate o s).addr) s.p = (r, q)) :
    let ea := locate o s
    ∃ t, exec i s = .next t ∧
      t = { s with p := q, bus := (ea.state.bus.afterRead ea.addr).afterWrite ea.addr r,
                   phase := .waiting s.cpuTicks i.row.cycles } ∧
      Holds t ea.addr r ∧ MemoryKept [ea.addr] s t := by
  intro ea
  have hexec := exec_eq_modifyInstr hf ho s
  simp only [modifyInstr_eq, hr] at hexec
  refine ⟨_, hexec, rfl, fun hram => Bus.peek_afterWrite_same r hram, fun addr haddr => ?_⟩
  calc ((ea.state.bus.afterRead ea.addr).afterWrite ea.addr r).peek addr
    _ = (ea.state.bus.afterRead ea.addr).peek addr := Bus.peek_afterWrite_other _ r (List.ne_of_not_mem_cons haddr)
    _ = ea.state.bus.peek addr := Bus.afterRead_peek _ _ addr
    _ = s.bus.peek addr := locate_peek o s addr

end

/-! The instructions. -/

/-- Settles O50: each of the two is the read-modify-write shape, Z and N coming from the byte written by `setZN`. -/
theorem memoryIncrementsAndDecrements : Obligations.MemoryIncrementsAndDecrements := by
  intro i o s r ho ea v hr
  obtain ⟨hz, hn, hflags⟩ := setZNSetsZeroAndNegative r s.p
  obtain ⟨f, hf, hresult⟩ : ∃ f, modifyOperation i.row.mnemonic = some f ∧ f v s.p = (r, setZN r s.p) := by
    obtain ⟨hm, hnum⟩ | ⟨hm, hnum⟩ := hr
    · obtain rfl := eq_add_one_of_toNat hnum
      exact ⟨incResult, by rw [hm]; rfl, rfl⟩
    · obtain rfl := eq_sub_one_of_toNat hnum
      exact ⟨decResult, by rw [hm]; rfl, rfl⟩
  obtain ⟨t, hexec, rfl, hholds, hkept⟩ := exists_next_of_modifyOperation hf ho hresult
  exact ⟨_, hexec, rfl, hz, hn, hflags, hholds, hkept⟩

/-- Settles O51: each of the four sets Z and N after its one register. -/
theorem registerIncrementsAndDecrements : Obligations.RegisterIncrementsAndDecrements := by
  intro s r c h
  obtain ⟨hnum, rfl⟩ | ⟨hnum, rfl⟩ | ⟨hnum, rfl⟩ | ⟨hnum, rfl⟩ := h
  · obtain rfl := eq_add_one_of_toNat hnum
    exact exists_next_of_setZN (u := s.setX (s.x + 1#8)) rfl
  · obtain rfl := eq_add_one_of_toNat hnum
    exact exists_next_of_setZN (u := s.setY (s.y + 1#8)) rfl
  · obtain rfl := eq_sub_one_of_toNat hnum
    exact exists_next_of_setZN (u := s.setX (s.x - 1#8)) rfl
  · obtain rfl := eq_sub_one_of_toNat hnum
    exact exists_next_of_setZN (u := s.setY (s.y - 1#8)) rfl

/-- Settles O52: each accumulator form is the accumulator shape with the byte and the carry of `shiftSpec`. -/
theorem accumulatorShiftsAndRotates : Obligations.AccumulatorShiftsAndRotates := by
  intro i s r c hmode hshift
  obtain ⟨f, hf, hresult⟩ := modifyOperation_of_shiftSpec hshift
  obtain ⟨hc, hz, hn, hflags⟩ := setZN_setCarry_flags r c s.p
  have hexec := exec_eq_accumulatorInstr hmode hf s
  rw [accumulatorInstr_eq, hresult] at hexec
  exact ⟨_, hexec, rfl, hc, hz, hn, hflags, fun _ _ => rfl⟩

/-- Settles O53: each memory form is the read-modify-write shape with the byte and the carry of `shiftSpec`. -/
theorem memoryShiftsAndRotates : Obligations.MemoryShiftsAndRotates := by
  intro i o s r c ho ea hshift
  obtain ⟨f, hf, hresult⟩ := modifyOperation_of_shiftSpec hshift
  obtain ⟨hc, hz, hn, hflags⟩ := setZN_setCarry_flags r c s.p
  obtain ⟨t, hexec, rfl, hholds, hkept⟩ := exists_next_of_modifyOperation hf ho hresult
  exact ⟨_, hexec, rfl, hc, hz, hn, hflags, hholds, hkept⟩

end Sys2Proof.Machine
end

section
/-! PROOFS. Jumps, subroutine calls and branches (`45_control_branch.md` R142 to R153): the address that PC takes, what a
call stores on the stack, and the cycles. -/

namespace Sys2Proof.Machine

/-! What a chain of stack operations leaves in memory. -/

theorem MemoryKept.trans {l m : List Word} {s t u : State} (hst : MemoryKept l s t) (htu : MemoryKept m t u) :
    MemoryKept (l ++ m) s u := by
  intro addr haddr
  obtain ⟨hl, hm⟩ : addr ∉ l ∧ addr ∉ m := by simpa using haddr
  exact (htu addr hm).trans (hst addr hl)

/-- A byte that memory holds outlasts a push to another address. -/
theorem holds_push_of_ne {s : State} {addr : Word} {w : Byte} (h : Holds s addr w) (hne : addr ≠ stackAddr s.sp)
    (v : Byte) : Holds (push v s) addr w :=
  fun hram => (Bus.peek_afterWrite_other s.bus v hne).trans (h hram)

theorem push16_holds_hi (v : Word) (s : State) : Holds (push16 v s) (stackAddr s.sp) (hi v) := by
  have hne : stackAddr s.sp ≠ stackAddr (s.sp - 1#8) := mt stackAddr_inj.1 (sp_ne_sub s.sp).1
  exact holds_push_of_ne (push_holds (hi v) s) hne (lo v)

theorem push16_holds_lo (v : Word) (s : State) : Holds (push16 v s) (stackAddr (s.sp - 1#8)) (lo v) :=
  push_holds (lo v) (push (hi v) s)

theorem push16_memoryKept (v : Word) (s : State) :
    MemoryKept [stackAddr s.sp, stackAddr (s.sp - 1#8)] s (push16 v s) :=
  (push_memoryKept (hi v) s).trans (push_memoryKept (lo v) (push (hi v) s))

theorem pull16_memoryKept (s : State) : MemoryKept [] s (pull16 s).2 :=
  (pull_memoryKept s).trans (pull_memoryKept (pull s).2)

/-! Where a branch goes, and at what cost. -/

/-- The address at a signed distance modulo 65536 is PC plus the sign-extended offset (R90). -/
theorem eq_add_sext16_of_toNat {pc target : Word} {off : Byte}
    (h : (target.toNat : Int) = ((pc.toNat : Int) + off.toInt) % 65536) : target = pc + sext16 off := by
  apply BitVec.eq_of_toNat_eq
  rw [toInt_eq_sub_of_sign] at h
  rw [BitVec.toNat_add, sext16_toNat]
  split_ifs at h ⊢ <;> omega

theorem branchInstr_taken (off : Byte) (s : State) :
    branchInstr true off s = .next ((s.setPC (s.pc + sext16 off)).finish
      (3 + if hi (s.pc + sext16 off) ≠ hi s.pc then 1 else 0)) := by
  rw [branchInstr_eq, branchCycles_eq, if_pos rfl, if_pos rfl, ← Nat.add_assoc]

theorem branchInstr_untaken (off : Byte) (s : State) : branchInstr false off s = .next (s.finish 2) := rfl

/-- The instructions with a relative operand are the eight branches, each on the condition of its mnemonic. -/
theorem exec_eq_branchInstr {i : Instr} {off : Byte} (ho : operandOf i = some (.relative off)) (s : State) :
    exec i s = branchInstr (branchCondition i.row.mnemonic s.p) off s := by
  cases i with
  | bcc offset | bne offset | bpl offset | bvc offset =>
    obtain rfl := Operand.relative.inj (Option.some.inj ho)
    exact congrArg (branchInstr · offset s) (beq_false _).symm
  | bcs offset | beq offset | bmi offset | bvs offset =>
    obtain rfl := Operand.relative.inj (Option.some.inj ho)
    exact congrArg (branchInstr · offset s) (beq_true _).symm
  | _ => nomatch ho

/-! The instructions. -/

/-- Settles O54: both forms are the control shape; an indirect jump's two reads store nothing. -/
theorem jumpsSetPC : Obligations.JumpsSetPC := by
  intro s w
  constructor
  · exact ⟨_, jumpInstr_eq 3 (.absolute w) s, rfl, fun _ _ => rfl⟩
  · exact ⟨_, jumpInstr_eq 5 (.indirect w) s, rfl, fun addr _ => locate_peek (.indirect w) s addr⟩

/-- Settles O55: JSR is one `push16` of the address before the post-operand PC, RTS one `pull16` with PC one past it. -/
theorem subroutineCallAndReturn : Obligations.SubroutineCallAndReturn := by
  intro s w
  have hdown : s.sp - 1#8 - 1#8 = s.sp - 2#8 := sub_sub s.sp 1#8 1#8
  have hup : s.sp + 1#8 + 1#8 = s.sp + 2#8 := add_assoc s.sp 1#8 1#8
  constructor
  · refine ⟨_, done_eq 6 ((push16 (s.pc - 1#16) s).setPC w), ?_, push16_holds_hi _ s, push16_holds_lo _ s,
      push16_memoryKept _ s⟩
    rw [push16_eq, hdown]
    rfl
  · refine ⟨_, done_eq 6 ((pull16 s).2.setPC ((pull16 s).1 + 1#16)), ?_, pull16_memoryKept s⟩
    rw [pull16_fst, pull16_snd, hup]
    rfl

/-- Settles O56: every branch is the branch shape on the condition of its mnemonic. -/
theorem branchesFollowTheirCondition : Obligations.BranchesFollowTheirCondition := by
  intro i off s target ho htarget
  obtain rfl := eq_add_sext16_of_toNat htarget
  have hexec := exec_eq_branchInstr ho s
  constructor
  · intro htaken
    rw [htaken, branchInstr_taken] at hexec
    exact ⟨_, hexec, rfl, fun _ _ => rfl⟩
  · intro huntaken
    rw [huntaken, branchInstr_untaken] at hexec
    exact ⟨_, hexec, rfl, fun _ _ => rfl⟩

end Sys2Proof.Machine
end

section
/-! PROOFS. Flag instructions, NOP and the return from an exception (`46_flags_system.md` R155 to R161, R163, R164,
`60_exceptions.md` R171): the one flag that is written, and the three pulls of RTI. -/

namespace Sys2Proof.Machine

/-! The return from an exception. -/

theorem returnFromException_memoryKept (s : State) : MemoryKept [] s (returnFromException s) :=
  (pull_memoryKept s).trans (pull16_memoryKept ((pull s).2.setP (pull s).1))

/-- Settles O59: RTI is `returnFromException`, whose three pulls move SP up one at a time. -/
theorem rtiReturnsFromTheException : Obligations.RtiReturnsFromTheException := by
  intro s
  have htwo : s.sp + 1#8 + 1#8 = s.sp + 2#8 := add_assoc s.sp 1#8 1#8
  have hthree : s.sp + 2#8 + 1#8 = s.sp + 3#8 := add_assoc s.sp 2#8 1#8
  refine ⟨_, done_eq 6 (returnFromException s), ?_, returnFromException_memoryKept s⟩
  rw [returnFromException_eq, htwo, hthree]
  rfl

/-! The flag instructions. -/

theorem flagsKept_setFlag (f : Flag) (b : Bool) (p : Byte) : FlagsKept [f] p (setFlag f b p) :=
  fun g hg => by rw [getFlag_setFlag, if_neg (List.ne_of_not_mem_cons hg)]

/-- An instruction that writes one flag changes nothing else but the phase, and that flag then reads as written (R9). -/
theorem exists_next_of_setFlag {r : Result} {cycles : Nat} {f : Flag} {b : Bool} {s : State}
    (hr : r = done cycles (s.setP (setFlag f b s.p))) : ∃ t, r = .next t ∧
      t = { s with p := t.p, phase := .waiting s.cpuTicks cycles } ∧
      getFlag f t.p = b ∧ FlagsKept [f] s.p t.p ∧ MemoryKept [] s t := by
  have hwritten : getFlag f (setFlag f b s.p) = b := by rw [getFlag_setFlag, if_pos rfl]
  exact ⟨_, hr, rfl, hwritten, flagsKept_setFlag f b s.p, fun _ _ => rfl⟩

/-- Settles O57: each flag instruction is one `setFlag` of its flag; NOP only ends. -/
theorem flagInstructionsWriteOneFlag : Obligations.FlagInstructionsWriteOneFlag := by
  intro s
  constructor
  · simp only [List.forall_mem_cons]
    refine ⟨?clc, ?cld, ?cli, ?clv, ?sec, ?sed, ?sei, List.forall_mem_nil _⟩
    all_goals exact exists_next_of_setFlag rfl
  · exact ⟨_, done_eq 2 s, rfl, fun _ _ => rfl⟩

end Sys2Proof.Machine
end

section
/-! PROOFS. The host's calls into the CPU (`70_reset_and_hazards.md` R190 to R194): what each answers inside its contract
and outside it. -/

namespace Sys2Proof.Machine

section
variable {s : State}

theorem hostReset_of_inBarrier (h : s.phase.inBarrier = true) : hostReset s = .refused .hostCallInBarrier :=
  if_pos h

theorem hostReset_of_keepsVector (houtside : s.phase.inBarrier = false) (hkeeps : s.bus.keepsVector = true) :
    hostReset s = .next s.afterReset := by
  simp [hostReset, houtside, hkeeps]

theorem hostReset_of_vectorChanged (houtside : s.phase.inBarrier = false) (hchanged : s.bus.keepsVector = false) :
    hostReset s = .refused .resetVectorChanged := by
  simp [hostReset, houtside, hchanged]

variable {b : GivenBus} {c : GivenClock} {r : ClockRef}

theorem hostConstruct_of_inBarrier (h : s.phase.inBarrier = true) :
    hostConstruct b c r s = .refused .hostCallInBarrier :=
  if_pos h

theorem hostConstruct_of_valid (houtside : s.phase.inBarrier = false) (hvalid : r.valid = true) :
    hostConstruct b c r s = .next (State.construct (b.pick s.bus) (c.pick s.clock) r s.agenda) := by
  simp [hostConstruct, houtside, hvalid]

theorem hostConstruct_of_invalid (houtside : s.phase.inBarrier = false) (hinvalid : r.valid = false) :
    hostConstruct b c r s = .refused .zeroDivisor := by
  simp [hostConstruct, houtside, hinvalid]

end

/-- Settles O6: the reset inside its contract, whose two vector reads follow the bus's own reset. -/
theorem hostResetLoadsRegistersAndVector : Obligations.HostResetLoadsRegistersAndVector := by
  intro s rest hagenda houtside hkeeps b0 b1
  refine ⟨Bus.afterBusReset_keep, fun m => Bus.afterBusReset_image, rfl, ?_⟩
  rw [step_of_agenda_cons hagenda]
  exact hostReset_of_keepsVector (s := s.setAgenda rest) houtside hkeeps

/-- Settles O7: the construction inside its contract, on what `pick` takes of the given bus and clock. -/
theorem constructionZeroesRegisters : Obligations.ConstructionZeroesRegisters := by
  intro s rest b c r hagenda houtside hvalid
  have hstep := step_of_agenda_cons hagenda
  have hnew := hostConstruct_of_valid (s := s.setAgenda rest) (b := b) (c := c) houtside hvalid
  refine ⟨_, hstep.trans hnew, rfl, ?_, ?_, ?_, ?_⟩
  · rintro rfl; rfl
  · rintro n rfl; rfl
  · rintro rfl; rfl
  · rintro n rfl; rfl

/-- Settles O8: each call outside its contract, by the condition it fails. -/
theorem hostCallsOutsideContractAreRefused : Obligations.HostCallsOutsideContractAreRefused := by
  refine ⟨?_, ?_, ?_⟩
  · intro s rest start c hwaiting hagenda
    have hinside : s.phase.inBarrier = true := by rw [hwaiting]; rfl
    rcases hagenda with hagenda | ⟨b, k, r, hagenda⟩ <;> rw [step_of_agenda_cons hagenda]
    · exact hostReset_of_inBarrier (s := s.setAgenda rest) hinside
    · exact hostConstruct_of_inBarrier (s := s.setAgenda rest) hinside
  · intro s rest hagenda houtside hchanged
    rw [step_of_agenda_cons hagenda]
    exact hostReset_of_vectorChanged (s := s.setAgenda rest) houtside hchanged
  · intro s rest b k hagenda houtside
    rw [step_of_agenda_cons hagenda]
    exact hostConstruct_of_invalid (s := s.setAgenda rest) houtside rfl

end Sys2Proof.Machine
end

section
/-! PROOFS. The ways a step stops (`60_exceptions.md` R165 to R167): the fault of a halted CPU in its turn, and the refusals of
the calls outside their contract. -/

namespace Sys2Proof.Machine

/-- Every divider but one of divisor 0 is valid, and so is the master (R180). -/
theorem ClockRef.valid_eq_false_iff {r : ClockRef} : r.valid = false ↔ r = .divider 0 := by
  cases r <;> simp [ClockRef.valid]

/-- The instruction step of a Ready CPU completes, whatever it fetches (R75). -/
theorem instructionStep_completes (s : State) : ∃ t, instructionStep s = .next t := by
  unfold instructionStep
  rcases fetchInstruction_cases s with ⟨i, n, hfetch⟩ | ⟨op, hfetch⟩ <;> rw [hfetch]
  · obtain ⟨t, hexec, -⟩ := exec_completesInFrame i (afterFetch n s)
    exact ⟨t, hexec⟩
  · exact ⟨_, rfl⟩

/-- In its turn a CPU makes a step unless it has halted, and then the step is its error. -/
theorem step_outcome_of_cpuTurn {s : State} (hturn : s.cpuTurn) :
    (∃ t, step s = .next t) ∨ ∃ op, s.phase = .halted op ∧ step s = .fault (.badOpcode op) := by
  cases hphase : s.phase with
  | ready =>
    rw [step_of_cpuTurn hphase hturn]
    exact .inl (instructionStep_completes _)
  | waiting start c =>
    rcases hturn with hagenda | ⟨rest, hagenda⟩
    · exact .inl ⟨_, step_of_waiting_default hphase hagenda⟩
    · exact .inl ⟨_, step_of_waiting_cpu hphase hagenda⟩
  | halted op => exact .inr ⟨op, rfl, step_of_halted hphase hturn⟩

theorem hostReset_ne_fault (s : State) (f : Fault) : hostReset s ≠ .fault f := by
  unfold hostReset
  split
  · nofun
  · split <;> nofun

theorem hostConstruct_ne_fault (b : GivenBus) (c : GivenClock) (r : ClockRef) (s : State) (f : Fault) :
    hostConstruct b c r s ≠ .fault f := by
  unfold hostConstruct
  split
  · nofun
  · split <;> nofun

/-- No move but the CPU's own faults. -/
theorem perform_ne_fault {m : Move} (hm : m ≠ .cpu) (s : State) (f : Fault) : perform m s ≠ .fault f := by
  cases m with
  | cpu => exact absurd rfl hm
  | await id r target =>
    rw [perform]
    split <;> nofun
  | reset => exact hostReset_ne_fault s f
  | construct b c r => exact hostConstruct_ne_fault b c r s f
  | tick | start | stop | resume _ | otherRead _ | otherWrite _ _ => nofun

theorem hostReset_refused_iff (s : State) :
    (∃ r, hostReset s = .refused r) ↔ s.phase.inBarrier = true ∨ s.bus.keepsVector = false := by
  cases hinside : s.phase.inBarrier with
  | true => simp [hostReset_of_inBarrier hinside]
  | false =>
    cases hkeeps : s.bus.keepsVector with
    | true => simp [hostReset_of_keepsVector hinside hkeeps]
    | false => simp [hostReset_of_vectorChanged hinside hkeeps]

theorem hostConstruct_refused_iff (b : GivenBus) (c : GivenClock) (k : ClockRef) (s : State) :
    (∃ r, hostConstruct b c k s = .refused r) ↔ s.phase.inBarrier = true ∨ k = .divider 0 := by
  rw [← ClockRef.valid_eq_false_iff]
  cases hinside : s.phase.inBarrier with
  | true => simp [hostConstruct_of_inBarrier hinside]
  | false =>
    cases hvalid : k.valid with
    | true => simp [hostConstruct_of_valid hinside hvalid]
    | false => simp [hostConstruct_of_invalid hinside hvalid]

theorem perform_await_refused_iff (id target : Nat) (k : ClockRef) (s : State) :
    (∃ r, perform (.await id k target) s = .refused r) ↔ k = .divider 0 := by
  rw [← ClockRef.valid_eq_false_iff]
  cases hvalid : k.valid <;> simp [perform, hvalid]

/-- A step faults exactly if the CPU has halted and it is its turn. -/
theorem step_fault_iff (s : State) (f : Fault) :
    step s = .fault f ↔ ∃ op, f = .badOpcode op ∧ s.phase = .halted op ∧ s.cpuTurn := by
  constructor
  · intro hfault
    have hturn : s.cpuTurn := by
      cases hagenda : s.agenda with
      | nil => exact .inl hagenda
      | cons m rest =>
        rw [step_of_agenda_cons hagenda] at hfault
        obtain rfl : m = .cpu := by_contra fun hm => perform_ne_fault hm _ f hfault
        exact .inr ⟨rest, hagenda⟩
    rcases step_outcome_of_cpuTurn hturn with ⟨t, hnext⟩ | ⟨op, hhalted, herror⟩
    · cases hnext.symm.trans hfault
    · exact ⟨op, Host.Outcome.fault.inj (hfault.symm.trans herror), hhalted, hturn⟩
  · rintro ⟨op, rfl, hhalted, hturn⟩
    exact step_of_halted hhalted hturn

theorem step_ne_refused_of_cpuTurn {s : State} (hturn : s.cpuTurn) (r : Refusal) : step s ≠ .refused r := by
  rcases step_outcome_of_cpuTurn hturn with ⟨t, h⟩ | ⟨op, -, h⟩ <;> rw [h] <;> nofun

/-- Settles O11: the fault is a halted CPU's in its turn, and the refusals are those of the three moves that have one. -/
theorem stepFaultsExactlyWhenHalted : Obligations.StepFaultsExactlyWhenHalted := by
  refine ⟨step_fault_iff, fun s => ⟨?_, ?_⟩⟩
  · rintro ⟨r, hrefused⟩
    cases hagenda : s.agenda with
    | nil => exact absurd hrefused (step_ne_refused_of_cpuTurn (.inl hagenda) r)
    | cons m rest =>
      have hperform := (step_of_agenda_cons hagenda).symm.trans hrefused
      refine ⟨rest, ?_⟩
      cases m with
      | cpu => exact absurd hrefused (step_ne_refused_of_cpuTurn (.inr ⟨rest, hagenda⟩) r)
      | reset => exact .inl ⟨rfl, (hostReset_refused_iff (s.setAgenda rest)).mp ⟨r, hperform⟩⟩
      | construct b c k =>
        exact .inr (.inl ⟨b, c, k, rfl, (hostConstruct_refused_iff b c k (s.setAgenda rest)).mp ⟨r, hperform⟩⟩)
      | await id k target =>
        obtain rfl := (perform_await_refused_iff id target k _).mp ⟨r, hperform⟩
        exact .inr (.inr ⟨id, target, rfl⟩)
      | tick | start | stop | resume _ | otherRead _ | otherWrite _ _ => nomatch hperform
  · rintro ⟨rest, ⟨hagenda, hcall⟩ | ⟨b, c, k, hagenda, hcall⟩ | ⟨id, target, hagenda⟩⟩ <;>
      rw [step_of_agenda_cons hagenda]
    · exact (hostReset_refused_iff (s.setAgenda rest)).mpr hcall
    · exact (hostConstruct_refused_iff b c k (s.setAgenda rest)).mpr hcall
    · exact (perform_await_refused_iff id target _ _).mpr rfl

/-- Settles O10: in its own turn a halted CPU has no next state, and every other move but the host's two calls leaves the
phase as it is. -/
theorem haltedLeftOnlyByResetOrConstruction : Obligations.HaltedLeftOnlyByResetOrConstruction := by
  intro s t op hhalted hstep hleft
  have hturn : ¬ s.cpuTurn := fun h => nomatch (step_of_halted hhalted h).symm.trans hstep
  cases hagenda : s.agenda with
  | nil => exact absurd (.inl hagenda) hturn
  | cons m rest =>
    have hperform := (step_of_agenda_cons hagenda).symm.trans hstep
    cases m with
    | cpu => exact absurd (.inr ⟨rest, hagenda⟩) hturn
    | reset => exact ⟨rest, .inl rfl⟩
    | construct b c r => exact ⟨rest, .inr ⟨b, c, r, rfl⟩⟩
    | await id r target =>
      rw [perform] at hperform
      split at hperform <;> cases hperform
      exact absurd hhalted hleft
    | tick | start | stop | resume _ | otherRead _ | otherWrite _ _ =>
      cases hperform
      exact absurd hhalted hleft

end Sys2Proof.Machine
end

section
/-! PROOFS. The clock's own operations (`60_exceptions.md` R176 to R183, R187): the length of a barrier on a divider, a blocked
CPU on a stopped clock, `start` and `stop`, whom a tick and a stop release, and what another consumer's `await` returns. -/

namespace Sys2Proof.Machine

/-! The length of a barrier. -/

/-- A target `c` ticks of a divider ahead lies `c * d` ticks of the master ahead, less those that the divider's current tick
has had already (R182). -/
theorem ClockRef.toMaster_scale_add (d m0 c : Nat) :
    (ClockRef.divider d).toMaster ((ClockRef.divider d).scale m0 + c) + m0 % d = m0 + c * d := by
  simp only [ClockRef.toMaster, ClockRef.scale]
  have hm0 := Nat.div_add_mod' m0 d
  rw [Nat.add_mul]
  omega

/-- Settles O25: the remainder of the count by the divisor is less than the divisor, and `c * d` is at least that. -/
theorem barrierLastsItsCyclesOnADivider : Obligations.BarrierLastsItsCyclesOnADivider := by
  intro d m0 c hd hc target
  have htarget : target + m0 % d = m0 + c * d := ClockRef.toMaster_scale_add d m0 c
  have hremainder : m0 % d < d := Nat.mod_lt m0 hd
  have hcost : d ≤ c * d := Nat.le_mul_of_pos_left d hc
  exact ⟨by omega, rfl, by omega, by omega⟩

/-! A stopped clock. -/

/-- The state with the CPU registered on its clock, unless it is already (R178). -/
def State.withCpuRegistered (start c : Nat) (s : State) : State :=
  s.setClock { s.clock with
    waiters := s.clock.waiters ++ if s.clock.hasWaiting .cpu then [] else [s.cpuWaiter start c] }

section
variable {start c : Nat} {s : State}

theorem State.withCpuRegistered_hasWaiting : (s.withCpuRegistered start c).clock.hasWaiting .cpu = true := by
  simp only [State.withCpuRegistered, State.setClock_clock]
  cases hblocked : s.clock.hasWaiting .cpu with
  | true => simpa [Clock.hasWaiting] using hblocked
  | false => simp [Clock.hasWaiting, State.cpuWaiter]

/-- A CPU that is not released and whose target lies ahead is registered after its own step. -/
theorem barrierStep_eq_withCpuRegistered (hreleased : s.clock.hasReleased .cpu = false)
    (hahead : s.clock.ticks < s.cpuClock.toMaster (start + c)) :
    barrierStep start c s = s.withCpuRegistered start c := by
  cases hblocked : s.clock.hasWaiting .cpu with
  | true =>
    rw [barrierStep_of_blocked hreleased hblocked, State.withCpuRegistered, if_pos hblocked, List.append_nil]
    rfl
  | false =>
    rw [barrierStep_of_ahead hreleased hblocked hahead, State.withCpuRegistered, hblocked]
    rfl

theorem advanceClock_of_stopped (target : Nat) (hstopped : s.clock.running = false) : advanceClock target s = s := by
  rw [advanceClock, Clock.tickTimes_of_stopped _ hstopped]
  rfl

/-- On a stopped clock the barrier of the default schedule leaves the CPU where its own step has it blocked. -/
theorem barrier_of_stopped {u : State} (hentered : barrierStep start c s = u) (hwaiting : u.phase = .waiting start c)
    (hstopped : u.clock.running = false) (hreleased : u.clock.hasReleased .cpu = false)
    (hblocked : u.clock.hasWaiting .cpu = true) : barrier start c s = u := by
  rw [barrier_of_waiting hentered hwaiting, advanceClock_of_stopped _ hstopped, barrierStep_of_blocked hreleased hblocked]

end

/-- Settles O27: the first step leaves the CPU registered, and a registered CPU on a stopped clock stays as it is. -/
theorem stoppedClockBlocksTheCpu : Obligations.StoppedClockBlocksTheCpu := by
  intro s start c hagenda hwaiting hstopped hreleased hahead
  have hblocked : (s.withCpuRegistered start c).clock.hasWaiting .cpu = true := State.withCpuRegistered_hasWaiting
  have hfirst : barrier start c s = s.withCpuRegistered start c :=
    barrier_of_stopped (barrierStep_eq_withCpuRegistered hreleased hahead) hwaiting hstopped hreleased hblocked
  have hlater : barrier start c (s.withCpuRegistered start c) = s.withCpuRegistered start c :=
    barrier_of_stopped (barrierStep_of_blocked hreleased hblocked) hwaiting hstopped hreleased hblocked
  refine ⟨s.withCpuRegistered start c, ?_, rfl, rfl, ?_⟩
  · rw [step_of_waiting_default hwaiting hagenda, hfirst]
  · rw [step_of_waiting_default (s := s.withCpuRegistered start c) hwaiting hagenda, hlater]

/-! `start`, `stop` and the producer's tick. -/

section
variable {c : Clock}

theorem Clock.tick_of_running (h : c.running = true) : c.tick =
    { c with
      ticks := c.ticks + 1
      waiters := c.waiters.filter fun w => w.target != c.ticks + 1
      released := c.released ++ (c.waiters.filter fun w => w.target == c.ticks + 1).map Waiter.reached } :=
  if_pos h

/-- Pausing a clock that does not run leaves it as it is. -/
theorem Clock.with_running_false (h : c.running = false) : { c with running := false } = c := by rw [← h]

theorem Clock.stop_of_block (h : c.policy = .block) : c.stop = { c with running := false } := by
  cases hrunning : c.running with
  | false => rw [Clock.stop_of_stopped hrunning, Clock.with_running_false hrunning]
  | true => simp [Clock.stop, hrunning, h]

theorem Clock.stop_of_drain (h : c.policy = .drain) (hrunning : c.running = true) : c.stop =
    { c with running := false, waiters := [], released := c.released ++ c.waiters.map (Waiter.drained c.ticks) } := by
  simp [Clock.stop, hrunning, h]

/-- A stop pauses the clock and changes nothing else of it but whose entries wait and whose are released. -/
theorem Clock.stop_frame (c : Clock) :
    c.stop = { c with running := false, waiters := c.stop.waiters, released := c.stop.released } := by
  cases hrunning : c.running with
  | false => rw [Clock.stop_of_stopped hrunning, Clock.with_running_false hrunning]
  | true =>
    rw [Clock.stop, if_pos hrunning]
    split <;> rfl

end

/-- Settles O28: the two operations written out, with the frame of `stop`. -/
theorem startAndStopActAsTheSpecSays : Obligations.StartAndStopActAsTheSpecSays := by
  refine ⟨?_, ?_, ?_⟩
  · intro s rest hagenda
    exact step_of_agenda_cons hagenda
  · intro s rest hagenda hstopped
    rw [step_of_agenda_cons hagenda, perform, State.setAgenda_clock, Clock.stop_of_stopped hstopped]
    rfl
  · intro s rest hagenda
    exact ⟨_, step_of_agenda_cons hagenda, congrArg (s.setAgenda rest).setClock s.clock.stop_frame⟩

/-- The releases made of a list of waiters, all drained at the same count or none drained, are those of its waiters. -/
theorem mem_map_release {l : List Waiter} {o : Option Nat} {r : Release} :
    r ∈ l.map (Release.mk · o) ↔ r.drainedAt = o ∧ r.waiter ∈ l := by
  rw [List.mem_map]
  constructor
  · rintro ⟨w, hw, rfl⟩
    exact ⟨rfl, hw⟩
  · rintro ⟨rfl, hw⟩
    exact ⟨r.waiter, hw, rfl⟩

section
variable {c : Clock} (hrunning : c.running = true)
include hrunning

theorem Clock.mem_tick_waiters (w : Waiter) : w ∈ c.tick.waiters ↔ w ∈ c.waiters ∧ w.target ≠ c.ticks + 1 := by
  simp [Clock.tick_of_running hrunning]

theorem Clock.mem_tick_released (r : Release) : r ∈ c.tick.released ↔
    r ∈ c.released ∨ (r.drainedAt = none ∧ r.waiter ∈ c.waiters ∧ r.waiter.target = c.ticks + 1) := by
  rw [Clock.tick_of_running hrunning, List.mem_append]
  refine or_congr_right (mem_map_release.trans ?_)
  rw [List.mem_filter, beq_iff_eq]

/-- A draining stop releases every waiter with the count at which the clock stands (R183). -/
theorem Clock.mem_stop_released_of_drain (hdrain : c.policy = .drain) (r : Release) : r ∈ c.stop.released ↔
    r ∈ c.released ∨ (r.drainedAt = some c.ticks ∧ r.waiter ∈ c.waiters) := by
  rw [Clock.stop_of_drain hdrain hrunning, List.mem_append]
  exact or_congr_right mem_map_release

theorem Clock.length_stop_released_of_drain (hdrain : c.policy = .drain) :
    c.stop.released.length = c.released.length + c.waiters.length := by
  rw [Clock.stop_of_drain hdrain hrunning, List.length_append, List.length_map]

end

/-- Settles O29: the tick and the stop by what they release, and the CPU that a stop released by its own resumption. -/
theorem ticksAndStopsReleaseWaiters : Obligations.TicksAndStopsReleaseWaiters := by
  refine ⟨?stoppedTick, ?tick, ?block, ?drain, ?resume⟩
  case stoppedTick =>
    intro s rest hagenda hstopped
    rw [step_of_agenda_cons hagenda, perform, State.setAgenda_clock, Clock.tick_of_stopped hstopped]
    rfl
  case tick =>
    intro s rest hagenda hrunning
    refine ⟨_, step_of_agenda_cons hagenda, ?_, Clock.mem_tick_waiters hrunning, Clock.mem_tick_released hrunning⟩
    rw [State.setAgenda_clock, Clock.tick_of_running hrunning]
    rfl
  case block =>
    intro s rest hagenda hblock
    rw [step_of_agenda_cons hagenda, perform, State.setAgenda_clock, Clock.stop_of_block hblock]
    rfl
  case drain =>
    intro s rest hagenda hdrain hrunning
    refine ⟨_, step_of_agenda_cons hagenda, ?_, Clock.mem_stop_released_of_drain hrunning hdrain,
      Clock.length_stop_released_of_drain hrunning hdrain⟩
    rw [State.setAgenda_clock, Clock.stop_of_drain hdrain hrunning]
    rfl
  case resume =>
    rintro s start c rest hwaiting hagenda ⟨r, hmem, hcpu, -⟩
    have hreleased : s.clock.hasReleased .cpu = true := Clock.hasReleased_of_mem hmem hcpu
    have hstep := step_of_waiting_cpu hwaiting hagenda
    rw [barrierStep_of_released (s := s.setAgenda rest) hreleased] at hstep
    exact ⟨_, hstep, rfl, Clock.othersKept_dropReleased s.clock .cpu, Clock.dropReleased_length hreleased⟩

/-! Another consumer's `await`. -/

section
variable {c : Clock}

/-- The free value that `await` returns on the master lies between the target and the count (R178). -/
theorem Clock.freeReturn_bounds {target : Nat} (h : target ≤ c.ticks) :
    target ≤ c.freeReturn target ∧ c.freeReturn target ≤ c.ticks := by
  have hslack : Config.awaitSlack c.draws % (c.ticks - target + 1) < c.ticks - target + 1 := Nat.mod_lt _ (Nat.succ_pos _)
  unfold Clock.freeReturn
  omega

/-- A waiter on the master that no stop drained gets a count between its target and the current one. -/
theorem Clock.awaitCount_undrained {w : Waiter} (hmaster : w.clock = .master) (h : w.target ≤ c.ticks) :
    w.target ≤ c.awaitCount w none ∧ c.awaitCount w none ≤ c.ticks := by
  simp only [Clock.awaitCount, hmaster]
  exact Clock.freeReturn_bounds h

theorem Clock.consumerAwait_of_passed {r : ClockRef} {target : Nat} (id : Nat) (h : r.toMaster target ≤ c.ticks) :
    c.consumerAwait id r target =
      c.returned id { caller := .consumer id, clock := r, target := r.toMaster target } none :=
  if_pos h

theorem Clock.consumerAwait_of_ahead {r : ClockRef} {target : Nat} (id : Nat) (h : c.ticks < r.toMaster target) :
    c.consumerAwait id r target = c.register (.consumer id) r target :=
  if_neg (Nat.not_le.mpr h)

theorem Clock.findReleased_of_hasReleased {who : Caller} (h : c.hasReleased who = true) :
    ∃ r, c.findReleased who = some r ∧ r ∈ c.released ∧ r.waiter.caller = who := by
  obtain ⟨r, hfind⟩ := Option.isSome_iff_exists.mp (List.find?_isSome.mpr (List.any_eq_true.mp h))
  exact ⟨r, hfind, List.mem_of_find?_eq_some hfind, by simpa using List.find?_some hfind⟩

theorem Clock.consumerResume_of_released {id : Nat} {r : Release} (h : c.findReleased (.consumer id) = some r) :
    c.consumerResume id = (c.dropReleased (.consumer id)).returned id r.waiter r.drainedAt := by
  simp only [Clock.consumerResume, h]

theorem Clock.consumerResume_of_unreleased {id : Nat} (h : c.hasReleased (.consumer id) = false) :
    c.consumerResume id = c := by
  have hnone : c.findReleased (.consumer id) = none := by
    simpa [Clock.findReleased, Clock.hasReleased] using h
  simp only [Clock.consumerResume, hnone]

end

/-- Settles O30: the call returns or registers as its target has passed or not; the resumption returns what `awaitCount`
gives the oldest release of its caller. -/
theorem awaitReturnsOrRegisters : Obligations.AwaitReturnsOrRegisters := by
  constructor
  · intro s rest id target r hagenda hvalid
    have hstep := step_of_agenda_cons hagenda
    rw [perform, if_pos hvalid] at hstep
    refine ⟨_, hstep, fun hahead => ?_, fun hpassed => ?_⟩
    · rw [State.setAgenda_clock, Clock.consumerAwait_of_ahead id hahead]
      rfl
    · rw [State.setAgenda_clock, Clock.consumerAwait_of_passed id hpassed]
      refine ⟨_, rfl, ?_, ?_⟩
      · rintro rfl
        exact Clock.awaitCount_undrained (w := ⟨_, .master, target⟩) rfl hpassed
      · rintro d rfl
        rw [Clock.awaitCount_divider _ _ rfl]
        exact ⟨rfl, (ClockRef.toMaster_le_iff hvalid target s.clock.ticks).mp hpassed⟩
  · intro s rest id hs hagenda
    refine ⟨_, step_of_agenda_cons hagenda, fun hunreleased => ?_, fun hreleased => ?_⟩
    · rw [State.setAgenda_clock, Clock.consumerResume_of_unreleased hunreleased]
      rfl
    · obtain ⟨r, hfind, hmem, hcaller⟩ := Clock.findReleased_of_hasReleased hreleased
      rw [State.setAgenda_clock, Clock.consumerResume_of_released hfind]
      refine ⟨r, _, hmem, hcaller, rfl, Clock.othersKept_dropReleased s.clock (.consumer id),
        Clock.dropReleased_length hreleased, fun q hq => List.mem_of_mem_eraseP hq, ?drained, ?reached, ?divider⟩
      case drained =>
        intro n hmaster hdrained
        rw [hdrained, Clock.awaitCount_drained _ n hmaster]
      case reached =>
        intro hmaster hundrained
        rw [hundrained]
        exact Clock.awaitCount_undrained (c := s.clock.dropReleased _) hmaster (hs.reached r hmem hundrained)
      case divider =>
        intro d hdivider
        exact Clock.awaitCount_divider _ _ hdivider

end Sys2Proof.Machine
end

section
/-! PROOFS. Taking the exception (`46_flags_system.md` R162, `60_exceptions.md` R168): what BRK leaves on the stack and in
P. -/

namespace Sys2Proof.Machine

/-- The state right after an exception's three pushes. -/
def afterExceptionPushes (ret : Word) (s : State) : State := push (pushedStatus s.p) (push16 ret s)

theorem afterExceptionPushes_holds_hi (ret : Word) (s : State) :
    Holds (afterExceptionPushes ret s) (stackAddr s.sp) (hi ret) := by
  have hne : stackAddr s.sp ≠ stackAddr (push16 ret s).sp := mt stackAddr_inj.1 (sp_ne_sub s.sp).2
  exact holds_push_of_ne (push16_holds_hi ret s) hne _

theorem afterExceptionPushes_holds_lo (ret : Word) (s : State) :
    Holds (afterExceptionPushes ret s) (stackAddr (s.sp - 1#8)) (lo ret) := by
  have hne : stackAddr (s.sp - 1#8) ≠ stackAddr (push16 ret s).sp := mt stackAddr_inj.1 (sp_ne_sub (s.sp - 1#8)).1
  exact holds_push_of_ne (push16_holds_lo ret s) hne _

theorem afterExceptionPushes_holds_status (ret : Word) (s : State) :
    Holds (afterExceptionPushes ret s) (stackAddr (s.sp - 1#8 - 1#8)) (pushedStatus s.p) :=
  push_holds (pushedStatus s.p) (push16 ret s)

theorem afterExceptionPushes_memoryKept (ret : Word) (s : State) :
    MemoryKept [stackAddr s.sp, stackAddr (s.sp - 1#8), stackAddr (s.sp - 1#8 - 1#8)] s
      (afterExceptionPushes ret s) :=
  (push16_memoryKept ret s).trans (push_memoryKept (pushedStatus s.p) (push16 ret s))

section
variable {ret : Word} {s : State}

/-- After its pushes an exception only reads, so memory and its binding stay as the pushes left them. -/
theorem takeException_bus : (takeException ret s).bus =
    ((afterExceptionPushes ret s).bus.afterRead breakVector).afterRead (breakVector + 1#16) := by
  rw [takeException_eq]
  rfl

theorem takeException_p : (takeException ret s).p = setFlag .i true s.p := by
  rw [takeException_eq]
  rfl

theorem holds_takeException_finish {addr : Word} {v : Byte} (h : Holds (afterExceptionPushes ret s) addr v)
    (cycles : Nat) : Holds ((takeException ret s).finish cycles) addr v := by
  unfold Holds at h ⊢
  rwa [State.finish_bus, takeException_bus]

theorem memoryKept_takeException_finish {l : List Word} (h : MemoryKept l s (afterExceptionPushes ret s))
    (cycles : Nat) : MemoryKept l s ((takeException ret s).finish cycles) := by
  unfold MemoryKept at h ⊢
  rwa [State.finish_bus, takeException_bus]

end

/-- Settles O58: BRK is `takeException` past the padding byte: three pushes, then I and the two vector reads. -/
theorem brkTakesTheException : Obligations.BrkTakesTheException := by
  intro s ret
  have htwo : s.sp - 2#8 = s.sp - 1#8 - 1#8 := (sub_sub s.sp 1#8 1#8).symm
  have hthree : s.sp - 3#8 = s.sp - 1#8 - 1#8 - 1#8 := by rw [← htwo]; exact (sub_sub s.sp 2#8 1#8).symm
  have hb : getFlag .b (pushedStatus s.p) = true := getFlag_pushedStatus .b s.p
  have hmasked : getFlag .i (takeException ret s).p = true := by
    rw [takeException_p, getFlag_setFlag, if_pos rfl]
  have hkept : FlagsKept [.i] s.p (takeException ret s).p := by
    rw [takeException_p]
    exact flagsKept_setFlag .i true s.p
  rw [htwo, hthree]
  refine ⟨_, pushedStatus s.p, done_eq 7 (takeException ret s), ?_, hb, flagsKept_pushedStatus s.p, hmasked, hkept,
    holds_takeException_finish (afterExceptionPushes_holds_hi ret s) 7,
    holds_takeException_finish (afterExceptionPushes_holds_lo ret s) 7,
    holds_takeException_finish (afterExceptionPushes_holds_status ret s) 7,
    memoryKept_takeException_finish (afterExceptionPushes_memoryKept ret s) 7⟩
  rw [takeException_eq]
  rfl

end Sys2Proof.Machine
end
